-- ==== Sys2Proof/Word.lean ====
section
/-! DEFINITION. The two widths of the hardware (00_scope.md R7, R13): bytes and 16-bit words. -/

namespace Sys2Proof

/-- A byte: a register, an opcode, a memory cell (R7, R13). -/
abbrev Byte := BitVec 8

/-- A 16-bit word: an address, SP, PC, a register pair (R7, R13). -/
abbrev Word := BitVec 16

end Sys2Proof
end

