-- ==== Sys2Proof/Config.lean ====
section
/-! DEFINITION. What a launch fixes (00_scope.md R8) as plain data, and the one free value: which agent moves when the
driver has queued no choice (R11). The parameters are carried in State (log entry 1), so every statement about all
states is about all parameter values. -/

namespace Sys2Proof

/-- The two opcode tables (30_encoding.md R114, R115); also the `table` of a fault record (60_exceptions.md R500). -/
inductive OpTable where
  | primary
  | cb
  deriving DecidableEq, Repr

/-- An opcode: a byte of one of the two tables (R117). -/
structure Opcode where
  table : OpTable
  byte  : Byte
  deriving DecidableEq, Repr

/-- `HSUB_MODE` of one of SUB, SBC, CP (42_alu8.md R262). -/
inductive HsubMode where
  | borrow
  | inverted
  deriving DecidableEq, Repr

/-- `ADDHL_H_MASK` (43_alu16.md R302): 0x1000, the carry out of bit 11, or 0x0100, the carry out of bit 7. -/
inductive AddHlMask where
  | mask1000
  | mask0100
  deriving DecidableEq, Repr

/-- `CB_SHIFT_Z` (44_rotate_shift.md R324). -/
inductive CbShiftZ where
  | clear
  | result
  deriving DecidableEq, Repr

/-- `RETI_MODE` (46_control.md R380). -/
inductive RetiMode where
  | immediate
  | delayed
  deriving DecidableEq, Repr

/-- `HALT_MODE` (47_system.md R403); it follows `ADMIT_EXTRA` (R8), see `haltMode` in Decode.lean. -/
inductive HaltMode where
  | fatal
  | halt
  deriving DecidableEq, Repr

/-- `RAM_BANKS`, the number of 8 KiB MBC1 RAM banks, in {0, 1, 4} (20_memory.md R76). -/
inductive RamBanks where
  | zero
  | one
  | four
  deriving DecidableEq, Repr

/-- The number a `RAM_BANKS` value stands for. -/
def RamBanks.count : RamBanks → Nat
  | .zero => 0
  | .one => 1
  | .four => 4

/-- The parameters of R8 that a step reads. `withheld` holds the extra opcodes that are NOT in `ADMIT_EXTRA` (log
entry 6); a named opcode or a hole in it changes nothing. -/
structure Config where
  withheld   : List Opcode
  hsubSub    : HsubMode
  hsubSbc    : HsubMode
  hsubCp     : HsubMode
  addHlHMask : AddHlMask
  cbShiftZ   : CbShiftZ
  retiMode   : RetiMode
  ramBanks   : RamBanks
  deriving DecidableEq, Repr

/-- The defaults of R8: `ADMIT_EXTRA` is every extra except 0x10 STOP, 0x27 DAA and 0x76 HALT (30_encoding.md R117). -/
def Config.default : Config where
  withheld   := [⟨.primary, 0x10⟩, ⟨.primary, 0x27⟩, ⟨.primary, 0x76⟩]
  hsubSub    := .borrow
  hsubSbc    := .borrow
  hsubCp     := .borrow
  addHlHMask := .mask1000
  cbShiftZ   := .clear
  retiMode   := .immediate
  ramBanks   := .four

/-- The two agents (00_scope.md R10). -/
inductive Agent where
  | cpu
  | ppu
  deriving DecidableEq, Repr, Inhabited

/-- FREE VALUE (log entry 5): the agent that takes the `n`-th step for which the driver's queue is empty. R11 admits
every weakly fair interleaving, so nothing constrains it. -/
opaque Config.freeAgent : Nat → Agent

end Sys2Proof
end

