-- ==== Sys2Proof/Machine/Memory.lean ====
section
/-! DEFINITION. The three byte stores behind the router (20_memory.md R87): the 64 KiB backing array, the cartridge ROM
image and the cartridge RAM image, each a list of cells in one canonical form. -/

namespace Sys2Proof.Machine

/-- The stores a read or a write is routed to (R87). -/
inductive Store where
  | backing
  | rom
  | cartRam
  deriving DecidableEq, Repr

/-- How many bytes a store can hold: 64 KiB (R60), 2 MiB (10_state.md R40), 4 x 8 KiB (R76). -/
def Store.size : Store → Nat
  | .backing => 0x10000
  | .rom => 0x200000
  | .cartRam => 0x8000

/-- What an unlisted byte reads as. `INIT_MEM` and `ROM_IMAGE` are any bytes; the choice 0x00 is log entries 3 and 4.
STAT is 0x02 at reset because STAT[2:0] = 0b010 (10_state.md R43). -/
def unlisted : Store → Nat → Byte
  | .backing, k => if k = 0xFF41 then 0x02 else 0x00
  | .rom, _ => 0x00
  | .cartRam, _ => 0x00

/-- A store's contents: the bytes that differ from `unlisted`, by rising address. -/
abbrev Memory := List Host.Cell

/-- The byte at `k`. -/
def Memory.get (st : Store) : Memory → Nat → Byte
  | [], k => unlisted st k
  | (k', v) :: m, k => if k' = k then v else Memory.get st m k

/-- Put one cell in its place by address. -/
def Memory.insert (k : Nat) (v : Byte) : Memory → Memory
  | [] => [(k, v)]
  | (k', v') :: m => if k < k' then (k, v) :: (k', v') :: m else (k', v') :: Memory.insert k v m

/-- Write the byte at `k`; writing what an unlisted byte reads as removes the entry. -/
def Memory.set (st : Store) (m : Memory) (k : Nat) (v : Byte) : Memory :=
  let rest := m.filter fun c => c.1 != k
  if v = unlisted st k then rest else Memory.insert k v rest

/-- The canonical form: addresses strictly rising and inside the store, no entry that says what an unlisted byte says. -/
abbrev Memory.wf (st : Store) (m : Memory) : Prop :=
  List.Pairwise (fun c d => c.1 < d.1) m ∧ ∀ c ∈ m, c.1 < st.size ∧ c.2 ≠ unlisted st c.1

/-- The canonical memory with the given cells, a later cell of an address winning; cells outside the store are left out. -/
def Memory.ofCells (st : Store) (cells : List Host.Cell) : Memory :=
  cells.foldl (fun m c => if c.1 < st.size then Memory.set st m c.1 c.2 else m) []

end Sys2Proof.Machine
end

