-- ==== Sys2Proof/Machine/State.lean ====
section
/-! DEFINITION. The state of the machine as plain data: everything the spec names (10_state.md R20 to R45), the
parameters a launch fixes, and three fields of the model's own (`returned`, `sched`, `turn`). -/

namespace Sys2Proof.Machine

/-- The PPU's four modes (10_state.md R39). -/
inductive PpuMode where
  | oamSearch
  | pixelTransfer
  | hBlank
  | vBlank
  deriving DecidableEq, Repr

/-- The meaning of the MBC1 bank-select registers (20_memory.md R74). -/
inductive Mode1 where
  | rom
  | ram
  deriving DecidableEq, Repr

/-- The MBC1's registers (10_state.md R40). -/
structure Mbc1 where
  bankLo : BitVec 5
  bankHi : BitVec 2
  mode1  : Mode1
  ramEn  : Bool
  deriving DecidableEq, Repr

/-- The mapper: its kind and the state of that kind (10_state.md R40, 20_memory.md R69). -/
inductive Mapper where
  | romOnly
  | mbc1 (m : Mbc1)
  deriving DecidableEq, Repr

/-- The record of the fatal fault, `UnimplementedOpcode(table, opcode, addr)` (60_exceptions.md R500). -/
structure FatalInfo where
  table  : OpTable
  opcode : Byte
  addr   : Word
  deriving DecidableEq, Repr

/-- The whole state. -/
structure State where
  /-- The accumulator (R20). -/
  a : Byte
  /-- The flag byte, flags in bits 7:4, zeros in bits 3:0 (R23). Read and written through the accessors of Ops.lean. -/
  f : Byte
  b : Byte
  c : Byte
  d : Byte
  e : Byte
  h : Byte
  l : Byte
  /-- The stack pointer (R25). -/
  sp : Word
  /-- The program counter (R26). -/
  pc : Word
  /-- Interrupt master enable (R27). -/
  ime : Bool
  /-- The pending-EI flag (R28). -/
  eip : Bool
  /-- HALTED (R31); it has a meaning only under `HALT_MODE = halt` (log entry 15). -/
  halted : Bool
  /-- FAULT (R30): none, or the record of the fatal fault. -/
  fault : Option FatalInfo
  /-- The 64 KiB backing array (00_scope.md R15 `Direct`, 20_memory.md R60); IF, IE, LCDC, STAT, SCY, SCX, LY live in it (R32). -/
  backing : Memory
  /-- ROM_IMAGE (20_memory.md R69). -/
  rom : Memory
  /-- NBANKS, the length of ROM_IMAGE in 16 KiB banks (20_memory.md R70). -/
  romBanks : Nat
  /-- RAM_IMAGE of an MBC1 cartridge (20_memory.md R75). -/
  cartRam : Memory
  /-- The mapper (R40). -/
  mapper : Mapper
  /-- MODE of the PPU (R39). -/
  mode : PpuMode
  /-- LINE of the PPU, 0 to 153 (R39). -/
  line : Nat
  /-- The launch's parameters (00_scope.md R8); no step writes them (log entry 1). -/
  cfg : Config
  /-- MODEL'S OWN (log entry 9): the count the last step returned (R16); none after reset and after a fault. -/
  returned : Option Nat
  /-- MODEL'S OWN (log entry 5): the driver's queued choices of the next agents (R11), the next one first. -/
  sched : List Agent
  /-- MODEL'S OWN (log entry 5): how many steps were chosen by the free value `Config.freeAgent`. -/
  turn : Nat
  deriving DecidableEq, Repr

/-- Why a step stops the machine. -/
inductive Fault where
  /-- Raised by `step` in a state whose FAULT is set: after the fatal fault neither agent takes a step (60_exceptions.md
  R500, 10_state.md R30). Safe: it is the spec's own stuck state. -/
  | unimplementedOpcode (info : FatalInfo)
  deriving DecidableEq, Repr

/-- Why the model gives an instruction no meaning. -/
inductive Refusal where
  /-- Raised by an arm of `exec` whose instruction has no meaning yet; safe. No arm of this model raises it. -/
  | notModelled (mnemonic : String)
  deriving DecidableEq, Repr

/-- What a meaning answers. -/
abbrev Result := Host.Outcome State Fault Refusal

/-- The machine right after reset (10_state.md R42 to R45, 70_reset_and_hazards.md R600) under the default parameters:
CPU values of the default `RESET_CPU` (log entry 2), `INIT_MEM` (log entry 3) and cartridge (log entry 4). -/
def State.reset : State where
  a := 0x01
  f := 0xB0
  b := 0x00
  c := 0x13
  d := 0x00
  e := 0xD8
  h := 0x01
  l := 0x4D
  sp := 0xFFFE
  pc := 0x0100
  ime := false
  eip := false
  halted := false
  fault := none
  backing := []
  rom := []
  romBanks := 2
  cartRam := []
  mapper := .romOnly
  mode := .oamSearch
  line := 0
  cfg := Config.default
  returned := none
  sched := []
  turn := 0

end Sys2Proof.Machine
end

