-- ==== Sys2Proof/Machine/Flags.lean ====
section
/-! DEFINITION. The results and flags of the arithmetic, logic, rotate, shift and bit operations, as functions of their
operands (42_alu8.md, 43_alu16.md, 44_rotate_shift.md, 45_bit.md). -/

namespace Sys2Proof.Machine

/-- An 8-bit result with the four flags an instruction leaves. -/
structure Out8 where
  res : Byte
  z : Bool
  n : Bool
  h : Bool
  c : Bool
  deriving DecidableEq, Repr

/-- A 16-bit result with its half-carry and carry. -/
structure Out16 where
  res : Word
  h : Bool
  c : Bool
  deriving DecidableEq, Repr

/-! ## 8-bit addition and subtraction (R260 to R262) -/

/-- `add8` (R260): (res, h, c). -/
def add8 (a b : Byte) (cin : Bool) : Byte × Bool × Bool :=
  (a + b + BitVec.ofNat 8 cin.toNat,
   decide ((a &&& 0x0F).toNat + (b &&& 0x0F).toNat + cin.toNat > 0x0F),
   decide (a.toNat + b.toNat + cin.toNat > 0xFF))

/-- `sub8` (R261): (res, hborrow, c). -/
def sub8 (a b : Byte) (cin : Bool) : Byte × Bool × Bool :=
  (a - b - BitVec.ofNat 8 cin.toNat,
   decide ((a &&& 0x0F).toNat < (b &&& 0x0F).toNat + cin.toNat),
   decide (a.toNat < b.toNat + cin.toNat))

/-- `hsub` (R262). -/
def hsub (m : HsubMode) (a b res : Byte) (hborrow : Bool) : Bool :=
  match m with
  | .borrow => hborrow
  | .inverted => (a ^^^ ~~~b ^^^ res) &&& 0x10 == 0x10

/-! ## The eight ALU operations (R264 to R271) -/

/-- ADD (R264). -/
def aluAdd (a v : Byte) : Out8 :=
  let r := add8 a v false
  ⟨r.1, r.1 == 0, false, r.2.1, r.2.2⟩

/-- ADC (R265). -/
def aluAdc (a v : Byte) (cin : Bool) : Out8 :=
  let r := add8 a v cin
  ⟨r.1, r.1 == 0, false, r.2.1, r.2.2⟩

/-- SUB (R266). -/
def aluSub (cfg : Config) (a v : Byte) : Out8 :=
  let r := sub8 a v false
  ⟨r.1, r.1 == 0, true, hsub cfg.hsubSub a v r.1 r.2.1, r.2.2⟩

/-- SBC (R267). -/
def aluSbc (cfg : Config) (a v : Byte) (cin : Bool) : Out8 :=
  let r := sub8 a v cin
  ⟨r.1, r.1 == 0, true, hsub cfg.hsubSbc a v r.1 r.2.1, r.2.2⟩

/-- AND (R268). -/
def aluAnd (a v : Byte) : Out8 := ⟨a &&& v, a &&& v == 0, false, true, false⟩

/-- XOR (R269). -/
def aluXor (a v : Byte) : Out8 := ⟨a ^^^ v, a ^^^ v == 0, false, false, false⟩

/-- OR (R270). -/
def aluOr (a v : Byte) : Out8 := ⟨a ||| v, a ||| v == 0, false, false, false⟩

/-- CP (R271): the flags of A - v; A keeps its value, so the result left in A is A. -/
def aluCp (cfg : Config) (a v : Byte) : Out8 :=
  let r := sub8 a v false
  ⟨a, r.1 == 0, true, hsub cfg.hsubCp a v r.1 r.2.1, r.2.2⟩

/-- What an ALU operation leaves in A and the flags. -/
def aluOut (cfg : Config) (op : AluOp) (a v : Byte) (cin : Bool) : Out8 :=
  match op with
  | .add => aluAdd a v
  | .adc => aluAdc a v cin
  | .sub => aluSub cfg a v
  | .sbc => aluSbc cfg a v cin
  | .and => aluAnd a v
  | .xor => aluXor a v
  | .or => aluOr a v
  | .cp => aluCp cfg a v

/-! ## INC, DEC, DAA -/

/-- INC (R272, R273): C is the carry flag as it was. -/
def incOut (v : Byte) (c : Bool) : Out8 :=
  let res := v + 1
  ⟨res, res == 0, false, (v ^^^ 0x01 ^^^ res) &&& 0x10 == 0x10, c⟩

/-- DEC (R274, R275). -/
def decOut (v : Byte) (c : Bool) : Out8 :=
  let res := v - 1
  ⟨res, res == 0, true, (v ^^^ 0x01 ^^^ res) &&& 0x10 == 0x10, c⟩

/-- DAA (R276). The tests read A as it was: adding 0x60 leaves the low four bits. -/
def daaOut (a : Byte) (n h c : Bool) : Out8 :=
  let hi := if n then c else c || decide (a.toNat > 0x99)
  let lo := if n then h else h || decide ((a &&& 0x0F).toNat > 0x09)
  let adj : Byte := (if hi then 0x60 else 0x00) + (if lo then 0x06 else 0x00)
  let res := if n then a - adj else a + adj
  ⟨res, res == 0, n, false, hi⟩

/-! ## 16-bit arithmetic (R302, R304) -/

/-- The bit `ADDHL_H_MASK` tests (R302). -/
def hMaskBits : AddHlMask → Word
  | .mask1000 => 0x1000
  | .mask0100 => 0x0100

/-- ADD HL,rr (R302). -/
def addHlOut (cfg : Config) (hl v : Word) : Out16 :=
  let res := hl + v
  ⟨res, (hl ^^^ v ^^^ res) &&& hMaskBits cfg.addHlHMask != 0, decide (hl.toNat + v.toNat > 0xFFFF)⟩

/-- `SPAdd` (R304). -/
def spAdd (sp : Word) (e : Byte) : Out16 :=
  ⟨sp + e.signExtend 16,
   decide ((sp &&& 0x0F).toNat + (e &&& 0x0F).toNat > 0x0F),
   decide ((sp &&& 0xFF).toNat + e.toNat > 0xFF)⟩

/-! ## Rotates and shifts (R320 to R332) -/

/-- `zcb(res)` (R324). -/
def zcb (cfg : Config) (res : Byte) : Bool :=
  match cfg.cbShiftZ with
  | .clear => false
  | .result => res == 0

/-- The bit of a carry as a byte: bit `k` is `b`. -/
def bitAt (b : Bool) (k : Nat) : Byte := if b then 1#8 <<< k else 0

/-- Rotate left circular (R320, R325): (res, c). -/
def rotLc (v : Byte) : Byte × Bool := (v <<< 1 ||| bitAt (v.getLsbD 7) 0, v.getLsbD 7)

/-- Rotate right circular (R321, R326). -/
def rotRc (v : Byte) : Byte × Bool := (v >>> 1 ||| bitAt (v.getLsbD 0) 7, v.getLsbD 0)

/-- Rotate left through carry (R322, R327). -/
def rotL (v : Byte) (cin : Bool) : Byte × Bool := (v <<< 1 ||| bitAt cin 0, v.getLsbD 7)

/-- Rotate right through carry (R323, R328). -/
def rotR (v : Byte) (cin : Bool) : Byte × Bool := (v >>> 1 ||| bitAt cin 7, v.getLsbD 0)

/-- Shift left arithmetic (R329). -/
def shiftLa (v : Byte) : Byte × Bool := (v <<< 1, v.getLsbD 7)

/-- Shift right arithmetic, bit 7 kept (R330). -/
def shiftRa (v : Byte) : Byte × Bool := (v >>> 1 ||| (v &&& 0x80), v.getLsbD 0)

/-- Shift right logical (R332). -/
def shiftRl (v : Byte) : Byte × Bool := (v >>> 1, v.getLsbD 0)

/-- Exchange the nibbles (R331). -/
def swapNibbles (v : Byte) : Byte := (v &&& 0x0F) <<< 4 ||| v >>> 4

/-- The flags of a CB rotate or shift: `(zcb(res), 0, 0, c)` (R324). -/
def cbShiftOut (cfg : Config) (r : Byte × Bool) : Out8 := ⟨r.1, zcb cfg r.1, false, false, r.2⟩

/-- What a CB rotate, shift or SWAP leaves (R325 to R332). -/
def rotOut (cfg : Config) (op : RotOp) (v : Byte) (cin : Bool) : Out8 :=
  match op with
  | .rlc => cbShiftOut cfg (rotLc v)
  | .rrc => cbShiftOut cfg (rotRc v)
  | .rl => cbShiftOut cfg (rotL v cin)
  | .rr => cbShiftOut cfg (rotR v cin)
  | .sla => cbShiftOut cfg (shiftLa v)
  | .sra => cbShiftOut cfg (shiftRa v)
  | .swap => ⟨swapNibbles v, swapNibbles v == 0, false, false, false⟩
  | .srl => cbShiftOut cfg (shiftRl v)

/-! ## Bits (R350 to R355) -/

/-- `v & ~(1 << b)` (R352). -/
def clearBit (b : Fin 8) (v : Byte) : Byte := v &&& ~~~(1#8 <<< b.val)

/-- `v | (1 << b)` (R354). -/
def setBit (b : Fin 8) (v : Byte) : Byte := v ||| 1#8 <<< b.val

end Sys2Proof.Machine
end

