-- ==== Sys2Proof/WellFormed.lean ====
section
/-! DEFINITION. Which terms of `Instr` are instructions as a program holds them. Operand fields have the widths of their
types, so two checks remain. -/

namespace Sys2Proof

/-- The PREFIX CB row is no instruction by itself: "the instruction is the CB row selected by byte 1" (its note in
spec/opcode_table.json; 47_system.md R405), so a program's CB instruction is the CB row's constructor. -/
def Instr.notBarePrefix : Instr → Bool
  | .prefix_cb _ => false
  | _ => true

/-- STOP is 0x10 0x00 (47_system.md R404): its second byte is 0x00. -/
def Instr.stopPadZero : Instr → Bool
  | .stop d8 => d8 == 0x00
  | _ => true

/-- The check. -/
def Instr.wellFormed (i : Instr) : Bool := i.notBarePrefix && i.stopPadZero

end Sys2Proof
end

