-- ==== Sys2Proof/Decode.lean ====
section
/-! DEFINITION. Decoding and encoding. The DECODER follows the opcode map by fields (30_encoding.md R111 to R115); the
ENCODER writes each row's bytes from the match column of spec/opcode_table.json, so that their agreement checks one
presentation of the spec against the other. Admission is R117. -/

namespace Sys2Proof

/-! ## Byte order (R113, 20_memory.md R81) -/

/-- `hi:lo` (00_scope.md R13). -/
def join (hi lo : Byte) : Word := hi ++ lo

/-- `v[15:8]`. -/
def hiByte (w : Word) : Byte := w.extractLsb' 8 8

/-- `v[7:0]`. -/
def loByte (w : Word) : Byte := w.extractLsb' 0 8

/-! ## The opcode map by fields: the instruction of each cell (R114, R115) -/

/-- x = 1 of R114: LD r[y],r[z], and HALT in the slot of LD (HL),(HL). -/
def Instr.ld : Operand8 → Operand8 → Instr
  | .reg .b, .reg .b => .ld_b_b
  | .reg .b, .reg .c => .ld_b_c
  | .reg .b, .reg .d => .ld_b_d
  | .reg .b, .reg .e => .ld_b_e
  | .reg .b, .reg .h => .ld_b_h
  | .reg .b, .reg .l => .ld_b_l
  | .reg .b, .atHl => .ld_b_at_hl
  | .reg .b, .reg .a => .ld_b_a
  | .reg .c, .reg .b => .ld_c_b
  | .reg .c, .reg .c => .ld_c_c
  | .reg .c, .reg .d => .ld_c_d
  | .reg .c, .reg .e => .ld_c_e
  | .reg .c, .reg .h => .ld_c_h
  | .reg .c, .reg .l => .ld_c_l
  | .reg .c, .atHl => .ld_c_at_hl
  | .reg .c, .reg .a => .ld_c_a
  | .reg .d, .reg .b => .ld_d_b
  | .reg .d, .reg .c => .ld_d_c
  | .reg .d, .reg .d => .ld_d_d
  | .reg .d, .reg .e => .ld_d_e
  | .reg .d, .reg .h => .ld_d_h
  | .reg .d, .reg .l => .ld_d_l
  | .reg .d, .atHl => .ld_d_at_hl
  | .reg .d, .reg .a => .ld_d_a
  | .reg .e, .reg .b => .ld_e_b
  | .reg .e, .reg .c => .ld_e_c
  | .reg .e, .reg .d => .ld_e_d
  | .reg .e, .reg .e => .ld_e_e
  | .reg .e, .reg .h => .ld_e_h
  | .reg .e, .reg .l => .ld_e_l
  | .reg .e, .atHl => .ld_e_at_hl
  | .reg .e, .reg .a => .ld_e_a
  | .reg .h, .reg .b => .ld_h_b
  | .reg .h, .reg .c => .ld_h_c
  | .reg .h, .reg .d => .ld_h_d
  | .reg .h, .reg .e => .ld_h_e
  | .reg .h, .reg .h => .ld_h_h
  | .reg .h, .reg .l => .ld_h_l
  | .reg .h, .atHl => .ld_h_at_hl
  | .reg .h, .reg .a => .ld_h_a
  | .reg .l, .reg .b => .ld_l_b
  | .reg .l, .reg .c => .ld_l_c
  | .reg .l, .reg .d => .ld_l_d
  | .reg .l, .reg .e => .ld_l_e
  | .reg .l, .reg .h => .ld_l_h
  | .reg .l, .reg .l => .ld_l_l
  | .reg .l, .atHl => .ld_l_at_hl
  | .reg .l, .reg .a => .ld_l_a
  | .atHl, .reg .b => .ld_at_hl_b
  | .atHl, .reg .c => .ld_at_hl_c
  | .atHl, .reg .d => .ld_at_hl_d
  | .atHl, .reg .e => .ld_at_hl_e
  | .atHl, .reg .h => .ld_at_hl_h
  | .atHl, .reg .l => .ld_at_hl_l
  | .atHl, .atHl => .halt
  | .atHl, .reg .a => .ld_at_hl_a
  | .reg .a, .reg .b => .ld_a_b
  | .reg .a, .reg .c => .ld_a_c
  | .reg .a, .reg .d => .ld_a_d
  | .reg .a, .reg .e => .ld_a_e
  | .reg .a, .reg .h => .ld_a_h
  | .reg .a, .reg .l => .ld_a_l
  | .reg .a, .atHl => .ld_a_at_hl
  | .reg .a, .reg .a => .ld_a_a

/-- x = 0, z = 6: LD r[y],d8. -/
def Instr.ldImm : Operand8 → Byte → Instr
  | .reg .b, n => .ld_b_d8 n
  | .reg .c, n => .ld_c_d8 n
  | .reg .d, n => .ld_d_d8 n
  | .reg .e, n => .ld_e_d8 n
  | .reg .h, n => .ld_h_d8 n
  | .reg .l, n => .ld_l_d8 n
  | .atHl, n => .ld_at_hl_d8 n
  | .reg .a, n => .ld_a_d8 n

/-- x = 0, z = 4: INC r[y]. -/
def Instr.inc : Operand8 → Instr
  | .reg .b => .inc_b
  | .reg .c => .inc_c
  | .reg .d => .inc_d
  | .reg .e => .inc_e
  | .reg .h => .inc_h
  | .reg .l => .inc_l
  | .atHl => .inc_at_hl
  | .reg .a => .inc_a

/-- x = 0, z = 5: DEC r[y]. -/
def Instr.dec : Operand8 → Instr
  | .reg .b => .dec_b
  | .reg .c => .dec_c
  | .reg .d => .dec_d
  | .reg .e => .dec_e
  | .reg .h => .dec_h
  | .reg .l => .dec_l
  | .atHl => .dec_at_hl
  | .reg .a => .dec_a

/-- x = 2: alu[y] A,r[z]. -/
def Instr.alu : AluOp → Operand8 → Instr
  | .add, .reg .b => .add_a_b
  | .add, .reg .c => .add_a_c
  | .add, .reg .d => .add_a_d
  | .add, .reg .e => .add_a_e
  | .add, .reg .h => .add_a_h
  | .add, .reg .l => .add_a_l
  | .add, .atHl => .add_a_at_hl
  | .add, .reg .a => .add_a_a
  | .adc, .reg .b => .adc_a_b
  | .adc, .reg .c => .adc_a_c
  | .adc, .reg .d => .adc_a_d
  | .adc, .reg .e => .adc_a_e
  | .adc, .reg .h => .adc_a_h
  | .adc, .reg .l => .adc_a_l
  | .adc, .atHl => .adc_a_at_hl
  | .adc, .reg .a => .adc_a_a
  | .sub, .reg .b => .sub_a_b
  | .sub, .reg .c => .sub_a_c
  | .sub, .reg .d => .sub_a_d
  | .sub, .reg .e => .sub_a_e
  | .sub, .reg .h => .sub_a_h
  | .sub, .reg .l => .sub_a_l
  | .sub, .atHl => .sub_a_at_hl
  | .sub, .reg .a => .sub_a_a
  | .sbc, .reg .b => .sbc_a_b
  | .sbc, .reg .c => .sbc_a_c
  | .sbc, .reg .d => .sbc_a_d
  | .sbc, .reg .e => .sbc_a_e
  | .sbc, .reg .h => .sbc_a_h
  | .sbc, .reg .l => .sbc_a_l
  | .sbc, .atHl => .sbc_a_at_hl
  | .sbc, .reg .a => .sbc_a_a
  | .and, .reg .b => .and_a_b
  | .and, .reg .c => .and_a_c
  | .and, .reg .d => .and_a_d
  | .and, .reg .e => .and_a_e
  | .and, .reg .h => .and_a_h
  | .and, .reg .l => .and_a_l
  | .and, .atHl => .and_a_at_hl
  | .and, .reg .a => .and_a_a
  | .xor, .reg .b => .xor_a_b
  | .xor, .reg .c => .xor_a_c
  | .xor, .reg .d => .xor_a_d
  | .xor, .reg .e => .xor_a_e
  | .xor, .reg .h => .xor_a_h
  | .xor, .reg .l => .xor_a_l
  | .xor, .atHl => .xor_a_at_hl
  | .xor, .reg .a => .xor_a_a
  | .or, .reg .b => .or_a_b
  | .or, .reg .c => .or_a_c
  | .or, .reg .d => .or_a_d
  | .or, .reg .e => .or_a_e
  | .or, .reg .h => .or_a_h
  | .or, .reg .l => .or_a_l
  | .or, .atHl => .or_a_at_hl
  | .or, .reg .a => .or_a_a
  | .cp, .reg .b => .cp_a_b
  | .cp, .reg .c => .cp_a_c
  | .cp, .reg .d => .cp_a_d
  | .cp, .reg .e => .cp_a_e
  | .cp, .reg .h => .cp_a_h
  | .cp, .reg .l => .cp_a_l
  | .cp, .atHl => .cp_a_at_hl
  | .cp, .reg .a => .cp_a_a

/-- x = 3, z = 6: alu[y] A,d8. -/
def Instr.aluImm : AluOp → Byte → Instr
  | .add, n => .add_a_d8 n
  | .adc, n => .adc_a_d8 n
  | .sub, n => .sub_a_d8 n
  | .sbc, n => .sbc_a_d8 n
  | .and, n => .and_a_d8 n
  | .xor, n => .xor_a_d8 n
  | .or, n => .or_a_d8 n
  | .cp, n => .cp_a_d8 n

/-- x = 0, z = 1, q = 0: LD rp[p],d16. -/
def Instr.ldPair : Pair → Word → Instr
  | .bc, n => .ld_bc_d16 n
  | .de, n => .ld_de_d16 n
  | .hl, n => .ld_hl_d16 n
  | .sp, n => .ld_sp_d16 n

/-- x = 0, z = 1, q = 1: ADD HL,rp[p]. -/
def Instr.addHl : Pair → Instr
  | .bc => .add_hl_bc
  | .de => .add_hl_de
  | .hl => .add_hl_hl
  | .sp => .add_hl_sp

/-- x = 0, z = 3, q = 0: INC rp[p]. -/
def Instr.incPair : Pair → Instr
  | .bc => .inc_bc
  | .de => .inc_de
  | .hl => .inc_hl
  | .sp => .inc_sp

/-- x = 0, z = 3, q = 1: DEC rp[p]. -/
def Instr.decPair : Pair → Instr
  | .bc => .dec_bc
  | .de => .dec_de
  | .hl => .dec_hl
  | .sp => .dec_sp

/-- x = 3, z = 5, q = 0: PUSH rp2[p]. -/
def Instr.push : StackPair → Instr
  | .bc => .push_bc
  | .de => .push_de
  | .hl => .push_hl
  | .af => .push_af

/-- x = 3, z = 1, q = 0: POP rp2[p]. -/
def Instr.pop : StackPair → Instr
  | .bc => .pop_bc
  | .de => .pop_de
  | .hl => .pop_hl
  | .af => .pop_af

/-- x = 0, z = 0, y = 4..7: JR cc,r8. -/
def Instr.jrCc : Cond → Byte → Instr
  | .nz, n => .jr_nz_r8 n
  | .z, n => .jr_z_r8 n
  | .nc, n => .jr_nc_r8 n
  | .c, n => .jr_c_r8 n

/-- x = 3, z = 2, y = 0..3: JP cc,a16. -/
def Instr.jpCc : Cond → Word → Instr
  | .nz, n => .jp_nz_a16 n
  | .z, n => .jp_z_a16 n
  | .nc, n => .jp_nc_a16 n
  | .c, n => .jp_c_a16 n

/-- x = 3, z = 4, y = 0..3: CALL cc,a16. -/
def Instr.callCc : Cond → Word → Instr
  | .nz, n => .call_nz_a16 n
  | .z, n => .call_z_a16 n
  | .nc, n => .call_nc_a16 n
  | .c, n => .call_c_a16 n

/-- x = 3, z = 0, y = 0..3: RET cc. -/
def Instr.retCc : Cond → Instr
  | .nz => .ret_nz
  | .z => .ret_z
  | .nc => .ret_nc
  | .c => .ret_c

/-- x = 3, z = 7: RST y*8. -/
def Instr.rst : Fin 8 → Instr
  | 0 => .rst_00
  | 1 => .rst_08
  | 2 => .rst_10
  | 3 => .rst_18
  | 4 => .rst_20
  | 5 => .rst_28
  | 6 => .rst_30
  | 7 => .rst_38

/-- x = 0 of R115: rot[y] r[z]. -/
def Instr.rot : RotOp → Operand8 → Instr
  | .rlc, .reg .b => .rlc_b
  | .rlc, .reg .c => .rlc_c
  | .rlc, .reg .d => .rlc_d
  | .rlc, .reg .e => .rlc_e
  | .rlc, .reg .h => .rlc_h
  | .rlc, .reg .l => .rlc_l
  | .rlc, .atHl => .rlc_at_hl
  | .rlc, .reg .a => .rlc_a
  | .rrc, .reg .b => .rrc_b
  | .rrc, .reg .c => .rrc_c
  | .rrc, .reg .d => .rrc_d
  | .rrc, .reg .e => .rrc_e
  | .rrc, .reg .h => .rrc_h
  | .rrc, .reg .l => .rrc_l
  | .rrc, .atHl => .rrc_at_hl
  | .rrc, .reg .a => .rrc_a
  | .rl, .reg .b => .rl_b
  | .rl, .reg .c => .rl_c
  | .rl, .reg .d => .rl_d
  | .rl, .reg .e => .rl_e
  | .rl, .reg .h => .rl_h
  | .rl, .reg .l => .rl_l
  | .rl, .atHl => .rl_at_hl
  | .rl, .reg .a => .rl_a
  | .rr, .reg .b => .rr_b
  | .rr, .reg .c => .rr_c
  | .rr, .reg .d => .rr_d
  | .rr, .reg .e => .rr_e
  | .rr, .reg .h => .rr_h
  | .rr, .reg .l => .rr_l
  | .rr, .atHl => .rr_at_hl
  | .rr, .reg .a => .rr_a
  | .sla, .reg .b => .sla_b
  | .sla, .reg .c => .sla_c
  | .sla, .reg .d => .sla_d
  | .sla, .reg .e => .sla_e
  | .sla, .reg .h => .sla_h
  | .sla, .reg .l => .sla_l
  | .sla, .atHl => .sla_at_hl
  | .sla, .reg .a => .sla_a
  | .sra, .reg .b => .sra_b
  | .sra, .reg .c => .sra_c
  | .sra, .reg .d => .sra_d
  | .sra, .reg .e => .sra_e
  | .sra, .reg .h => .sra_h
  | .sra, .reg .l => .sra_l
  | .sra, .atHl => .sra_at_hl
  | .sra, .reg .a => .sra_a
  | .swap, .reg .b => .swap_b
  | .swap, .reg .c => .swap_c
  | .swap, .reg .d => .swap_d
  | .swap, .reg .e => .swap_e
  | .swap, .reg .h => .swap_h
  | .swap, .reg .l => .swap_l
  | .swap, .atHl => .swap_at_hl
  | .swap, .reg .a => .swap_a
  | .srl, .reg .b => .srl_b
  | .srl, .reg .c => .srl_c
  | .srl, .reg .d => .srl_d
  | .srl, .reg .e => .srl_e
  | .srl, .reg .h => .srl_h
  | .srl, .reg .l => .srl_l
  | .srl, .atHl => .srl_at_hl
  | .srl, .reg .a => .srl_a

/-- x = 1 of R115: BIT y,r[z]. -/
def Instr.bit : Fin 8 → Operand8 → Instr
  | 0, .reg .b => .bit_0_b
  | 0, .reg .c => .bit_0_c
  | 0, .reg .d => .bit_0_d
  | 0, .reg .e => .bit_0_e
  | 0, .reg .h => .bit_0_h
  | 0, .reg .l => .bit_0_l
  | 0, .atHl => .bit_0_at_hl
  | 0, .reg .a => .bit_0_a
  | 1, .reg .b => .bit_1_b
  | 1, .reg .c => .bit_1_c
  | 1, .reg .d => .bit_1_d
  | 1, .reg .e => .bit_1_e
  | 1, .reg .h => .bit_1_h
  | 1, .reg .l => .bit_1_l
  | 1, .atHl => .bit_1_at_hl
  | 1, .reg .a => .bit_1_a
  | 2, .reg .b => .bit_2_b
  | 2, .reg .c => .bit_2_c
  | 2, .reg .d => .bit_2_d
  | 2, .reg .e => .bit_2_e
  | 2, .reg .h => .bit_2_h
  | 2, .reg .l => .bit_2_l
  | 2, .atHl => .bit_2_at_hl
  | 2, .reg .a => .bit_2_a
  | 3, .reg .b => .bit_3_b
  | 3, .reg .c => .bit_3_c
  | 3, .reg .d => .bit_3_d
  | 3, .reg .e => .bit_3_e
  | 3, .reg .h => .bit_3_h
  | 3, .reg .l => .bit_3_l
  | 3, .atHl => .bit_3_at_hl
  | 3, .reg .a => .bit_3_a
  | 4, .reg .b => .bit_4_b
  | 4, .reg .c => .bit_4_c
  | 4, .reg .d => .bit_4_d
  | 4, .reg .e => .bit_4_e
  | 4, .reg .h => .bit_4_h
  | 4, .reg .l => .bit_4_l
  | 4, .atHl => .bit_4_at_hl
  | 4, .reg .a => .bit_4_a
  | 5, .reg .b => .bit_5_b
  | 5, .reg .c => .bit_5_c
  | 5, .reg .d => .bit_5_d
  | 5, .reg .e => .bit_5_e
  | 5, .reg .h => .bit_5_h
  | 5, .reg .l => .bit_5_l
  | 5, .atHl => .bit_5_at_hl
  | 5, .reg .a => .bit_5_a
  | 6, .reg .b => .bit_6_b
  | 6, .reg .c => .bit_6_c
  | 6, .reg .d => .bit_6_d
  | 6, .reg .e => .bit_6_e
  | 6, .reg .h => .bit_6_h
  | 6, .reg .l => .bit_6_l
  | 6, .atHl => .bit_6_at_hl
  | 6, .reg .a => .bit_6_a
  | 7, .reg .b => .bit_7_b
  | 7, .reg .c => .bit_7_c
  | 7, .reg .d => .bit_7_d
  | 7, .reg .e => .bit_7_e
  | 7, .reg .h => .bit_7_h
  | 7, .reg .l => .bit_7_l
  | 7, .atHl => .bit_7_at_hl
  | 7, .reg .a => .bit_7_a

/-- x = 2 of R115: RES y,r[z]. -/
def Instr.res : Fin 8 → Operand8 → Instr
  | 0, .reg .b => .res_0_b
  | 0, .reg .c => .res_0_c
  | 0, .reg .d => .res_0_d
  | 0, .reg .e => .res_0_e
  | 0, .reg .h => .res_0_h
  | 0, .reg .l => .res_0_l
  | 0, .atHl => .res_0_at_hl
  | 0, .reg .a => .res_0_a
  | 1, .reg .b => .res_1_b
  | 1, .reg .c => .res_1_c
  | 1, .reg .d => .res_1_d
  | 1, .reg .e => .res_1_e
  | 1, .reg .h => .res_1_h
  | 1, .reg .l => .res_1_l
  | 1, .atHl => .res_1_at_hl
  | 1, .reg .a => .res_1_a
  | 2, .reg .b => .res_2_b
  | 2, .reg .c => .res_2_c
  | 2, .reg .d => .res_2_d
  | 2, .reg .e => .res_2_e
  | 2, .reg .h => .res_2_h
  | 2, .reg .l => .res_2_l
  | 2, .atHl => .res_2_at_hl
  | 2, .reg .a => .res_2_a
  | 3, .reg .b => .res_3_b
  | 3, .reg .c => .res_3_c
  | 3, .reg .d => .res_3_d
  | 3, .reg .e => .res_3_e
  | 3, .reg .h => .res_3_h
  | 3, .reg .l => .res_3_l
  | 3, .atHl => .res_3_at_hl
  | 3, .reg .a => .res_3_a
  | 4, .reg .b => .res_4_b
  | 4, .reg .c => .res_4_c
  | 4, .reg .d => .res_4_d
  | 4, .reg .e => .res_4_e
  | 4, .reg .h => .res_4_h
  | 4, .reg .l => .res_4_l
  | 4, .atHl => .res_4_at_hl
  | 4, .reg .a => .res_4_a
  | 5, .reg .b => .res_5_b
  | 5, .reg .c => .res_5_c
  | 5, .reg .d => .res_5_d
  | 5, .reg .e => .res_5_e
  | 5, .reg .h => .res_5_h
  | 5, .reg .l => .res_5_l
  | 5, .atHl => .res_5_at_hl
  | 5, .reg .a => .res_5_a
  | 6, .reg .b => .res_6_b
  | 6, .reg .c => .res_6_c
  | 6, .reg .d => .res_6_d
  | 6, .reg .e => .res_6_e
  | 6, .reg .h => .res_6_h
  | 6, .reg .l => .res_6_l
  | 6, .atHl => .res_6_at_hl
  | 6, .reg .a => .res_6_a
  | 7, .reg .b => .res_7_b
  | 7, .reg .c => .res_7_c
  | 7, .reg .d => .res_7_d
  | 7, .reg .e => .res_7_e
  | 7, .reg .h => .res_7_h
  | 7, .reg .l => .res_7_l
  | 7, .atHl => .res_7_at_hl
  | 7, .reg .a => .res_7_a

/-- x = 3 of R115: SET y,r[z]. -/
def Instr.set : Fin 8 → Operand8 → Instr
  | 0, .reg .b => .set_0_b
  | 0, .reg .c => .set_0_c
  | 0, .reg .d => .set_0_d
  | 0, .reg .e => .set_0_e
  | 0, .reg .h => .set_0_h
  | 0, .reg .l => .set_0_l
  | 0, .atHl => .set_0_at_hl
  | 0, .reg .a => .set_0_a
  | 1, .reg .b => .set_1_b
  | 1, .reg .c => .set_1_c
  | 1, .reg .d => .set_1_d
  | 1, .reg .e => .set_1_e
  | 1, .reg .h => .set_1_h
  | 1, .reg .l => .set_1_l
  | 1, .atHl => .set_1_at_hl
  | 1, .reg .a => .set_1_a
  | 2, .reg .b => .set_2_b
  | 2, .reg .c => .set_2_c
  | 2, .reg .d => .set_2_d
  | 2, .reg .e => .set_2_e
  | 2, .reg .h => .set_2_h
  | 2, .reg .l => .set_2_l
  | 2, .atHl => .set_2_at_hl
  | 2, .reg .a => .set_2_a
  | 3, .reg .b => .set_3_b
  | 3, .reg .c => .set_3_c
  | 3, .reg .d => .set_3_d
  | 3, .reg .e => .set_3_e
  | 3, .reg .h => .set_3_h
  | 3, .reg .l => .set_3_l
  | 3, .atHl => .set_3_at_hl
  | 3, .reg .a => .set_3_a
  | 4, .reg .b => .set_4_b
  | 4, .reg .c => .set_4_c
  | 4, .reg .d => .set_4_d
  | 4, .reg .e => .set_4_e
  | 4, .reg .h => .set_4_h
  | 4, .reg .l => .set_4_l
  | 4, .atHl => .set_4_at_hl
  | 4, .reg .a => .set_4_a
  | 5, .reg .b => .set_5_b
  | 5, .reg .c => .set_5_c
  | 5, .reg .d => .set_5_d
  | 5, .reg .e => .set_5_e
  | 5, .reg .h => .set_5_h
  | 5, .reg .l => .set_5_l
  | 5, .atHl => .set_5_at_hl
  | 5, .reg .a => .set_5_a
  | 6, .reg .b => .set_6_b
  | 6, .reg .c => .set_6_c
  | 6, .reg .d => .set_6_d
  | 6, .reg .e => .set_6_e
  | 6, .reg .h => .set_6_h
  | 6, .reg .l => .set_6_l
  | 6, .atHl => .set_6_at_hl
  | 6, .reg .a => .set_6_a
  | 7, .reg .b => .set_7_b
  | 7, .reg .c => .set_7_c
  | 7, .reg .d => .set_7_d
  | 7, .reg .e => .set_7_e
  | 7, .reg .h => .set_7_h
  | 7, .reg .l => .set_7_l
  | 7, .atHl => .set_7_at_hl
  | 7, .reg .a => .set_7_a

/-! ## Fields of an opcode byte (R112) -/

/-- x = byte[7:6]. -/
def fieldX (v : Byte) : Nat := v.toNat / 64

/-- y = byte[5:3]. -/
def fieldY (v : Byte) : Nat := v.toNat / 8 % 8

/-- z = byte[2:0]. -/
def fieldZ (v : Byte) : Nat := v.toNat % 8

/-- p = byte[5:4]. -/
def fieldP (v : Byte) : Nat := v.toNat / 16 % 4

/-- q = byte[3]. -/
def fieldQ (v : Byte) : Nat := v.toNat / 8 % 2

/-- The `r` table. -/
def rOf : Nat → Operand8
  | 0 => .reg .b
  | 1 => .reg .c
  | 2 => .reg .d
  | 3 => .reg .e
  | 4 => .reg .h
  | 5 => .reg .l
  | 6 => .atHl
  | _ => .reg .a

/-- The `rp` table. -/
def rpOf : Nat → Pair
  | 0 => .bc
  | 1 => .de
  | 2 => .hl
  | _ => .sp

/-- The `rp2` table. -/
def rp2Of : Nat → StackPair
  | 0 => .bc
  | 1 => .de
  | 2 => .hl
  | _ => .af

/-- The `cc` table. -/
def ccOf : Nat → Cond
  | 0 => .nz
  | 1 => .z
  | 2 => .nc
  | _ => .c

/-- The `alu` table. -/
def aluOf : Nat → AluOp
  | 0 => .add
  | 1 => .adc
  | 2 => .sub
  | 3 => .sbc
  | 4 => .and
  | 5 => .xor
  | 6 => .or
  | _ => .cp

/-- The `rot` table. -/
def rotOf : Nat → RotOp
  | 0 => .rlc
  | 1 => .rrc
  | 2 => .rl
  | 3 => .rr
  | 4 => .sla
  | 5 => .sra
  | 6 => .swap
  | _ => .srl

/-- The `b` table and the RST target field: the number y. -/
def bitOf (y : Nat) : Fin 8 := Fin.ofNat 8 y

/-! ## The decoder -/

/-- A cell of the primary map: a whole instruction, one that takes an 8-bit or a 16-bit immediate (R111), or the prefix,
whose second byte selects the instruction (R110). -/
inductive Row where
  | op (i : Instr)
  | d8 (k : Byte → Instr)
  | d16 (k : Word → Instr)
  | cbPrefix

/-- The cells with x = 0 (R114). -/
def rowX0 (y z p q : Nat) : Row :=
  match z with
  | 0 =>
    match y with
    | 0 => .op .nop
    | 1 => .d16 .ld_at_a16_sp
    | 2 => .d8 .stop
    | 3 => .d8 .jr_r8
    | _ => .d8 (.jrCc (ccOf (y - 4)))
  | 1 => if q = 0 then .d16 (.ldPair (rpOf p)) else .op (.addHl (rpOf p))
  | 2 =>
    match q, p with
    | 0, 0 => .op .ld_at_bc_a
    | 0, 1 => .op .ld_at_de_a
    | 0, 2 => .op .ld_at_hli_a
    | 0, _ => .op .ld_at_hld_a
    | _, 0 => .op .ld_a_at_bc
    | _, 1 => .op .ld_a_at_de
    | _, 2 => .op .ld_a_at_hli
    | _, _ => .op .ld_a_at_hld
  | 3 => if q = 0 then .op (.incPair (rpOf p)) else .op (.decPair (rpOf p))
  | 4 => .op (.inc (rOf y))
  | 5 => .op (.dec (rOf y))
  | 6 => .d8 (.ldImm (rOf y))
  | _ =>
    match y with
    | 0 => .op .rlca
    | 1 => .op .rrca
    | 2 => .op .rla
    | 3 => .op .rra
    | 4 => .op .daa
    | 5 => .op .cpl
    | 6 => .op .scf
    | _ => .op .ccf

/-- The cells with x = 3 (R114); the eleven holes are R116. -/
def rowX3 (y z p q : Nat) : Row :=
  match z with
  | 0 =>
    match y with
    | 4 => .d8 .ldh_at_a8_a
    | 5 => .d8 .add_sp_r8
    | 6 => .d8 .ldh_a_at_a8
    | 7 => .d8 .ld_hl_sp_r8
    | _ => .op (.retCc (ccOf y))
  | 1 =>
    match q, p with
    | 0, _ => .op (.pop (rp2Of p))
    | _, 0 => .op .ret
    | _, 1 => .op .reti
    | _, 2 => .op .jp_at_hl
    | _, _ => .op .ld_sp_hl
  | 2 =>
    match y with
    | 4 => .op .ld_at_c_a
    | 5 => .d16 .ld_at_a16_a
    | 6 => .op .ld_a_at_c
    | 7 => .d16 .ld_a_at_a16
    | _ => .d16 (.jpCc (ccOf y))
  | 3 =>
    match y with
    | 0 => .d16 .jp_a16
    | 1 => .cbPrefix
    | 2 => .op .hole_d3
    | 3 => .op .hole_db
    | 4 => .op .hole_e3
    | 5 => .op .hole_eb
    | 6 => .op .di
    | _ => .op .ei
  | 4 =>
    match y with
    | 4 => .op .hole_e4
    | 5 => .op .hole_ec
    | 6 => .op .hole_f4
    | 7 => .op .hole_fc
    | _ => .d16 (.callCc (ccOf y))
  | 5 =>
    match q, p with
    | 0, _ => .op (.push (rp2Of p))
    | _, 0 => .d16 .call_a16
    | _, 1 => .op .hole_dd
    | _, 2 => .op .hole_ed
    | _, _ => .op .hole_fd
  | 6 => .d8 (.aluImm (aluOf y))
  | _ => .op (.rst (bitOf y))

/-- The primary map (R114). -/
def primaryRow (op : Byte) : Row :=
  match fieldX op with
  | 0 => rowX0 (fieldY op) (fieldZ op) (fieldP op) (fieldQ op)
  | 1 => .op (.ld (rOf (fieldY op)) (rOf (fieldZ op)))
  | 2 => .op (.alu (aluOf (fieldY op)) (rOf (fieldZ op)))
  | _ => rowX3 (fieldY op) (fieldZ op) (fieldP op) (fieldQ op)

/-- The CB map (R115): all 256 second-level bytes are instructions. -/
def cbRow (cb : Byte) : Instr :=
  match fieldX cb with
  | 0 => .rot (rotOf (fieldY cb)) (rOf (fieldZ cb))
  | 1 => .bit (bitOf (fieldY cb)) (rOf (fieldZ cb))
  | 2 => .res (bitOf (fieldY cb)) (rOf (fieldZ cb))
  | _ => .set (bitOf (fieldY cb)) (rOf (fieldZ cb))

/-- Why a list of bytes holds no instruction: it is too short. No byte value is rejected: a hole decodes to its row of
the table, whose meaning is the fatal fault (R116). -/
inductive DecodeError where
  /-- no byte at all -/
  | noOpcode
  /-- the prefix 0xCB without its second byte -/
  | noCbByte
  /-- a primary opcode without all its immediate bytes -/
  | noImmediate (op : Byte)
  deriving DecidableEq, Repr

/-- The instruction at the head of the bytes, and the bytes after it (R110, R111, R113: a 16-bit immediate is low byte
first). -/
def decode : List Byte → Except DecodeError (Instr × List Byte)
  | [] => .error .noOpcode
  | b0 :: rest =>
    match primaryRow b0, rest with
    | .op i, rest => .ok (i, rest)
    | .d8 k, n :: rest => .ok (k n, rest)
    | .d16 k, lo :: hi :: rest => .ok (k (join hi lo), rest)
    | .cbPrefix, cb :: rest => .ok (cbRow cb, rest)
    | .cbPrefix, [] => .error .noCbByte
    | .d8 _, [] => .error (.noImmediate b0)
    | .d16 _, _ => .error (.noImmediate b0)

/-- The instruction at the head of three bytes: three always suffice (R110). -/
def decode3 (b0 b1 b2 : Byte) : Instr :=
  match primaryRow b0 with
  | .op i => i
  | .d8 k => k b1
  | .d16 k => k (join b2 b1)
  | .cbPrefix => cbRow b1

/-! ## The encoder -/

/-- The bytes of an instruction: the match column of its row, then its immediate, low byte first (R111, R113, R122). -/
def encode (i : Instr) : List Byte :=
  match i with
  | .nop => [0x00]
  | .ld_bc_d16 n => [0x01, loByte n, hiByte n]
  | .ld_at_bc_a => [0x02]
  | .inc_bc => [0x03]
  | .inc_b => [0x04]
  | .dec_b => [0x05]
  | .ld_b_d8 n => [0x06, n]
  | .rlca => [0x07]
  | .ld_at_a16_sp n => [0x08, loByte n, hiByte n]
  | .add_hl_bc => [0x09]
  | .ld_a_at_bc => [0x0A]
  | .dec_bc => [0x0B]
  | .inc_c => [0x0C]
  | .dec_c => [0x0D]
  | .ld_c_d8 n => [0x0E, n]
  | .rrca => [0x0F]
  | .stop n => [0x10, n]
  | .ld_de_d16 n => [0x11, loByte n, hiByte n]
  | .ld_at_de_a => [0x12]
  | .inc_de => [0x13]
  | .inc_d => [0x14]
  | .dec_d => [0x15]
  | .ld_d_d8 n => [0x16, n]
  | .rla => [0x17]
  | .jr_r8 n => [0x18, n]
  | .add_hl_de => [0x19]
  | .ld_a_at_de => [0x1A]
  | .dec_de => [0x1B]
  | .inc_e => [0x1C]
  | .dec_e => [0x1D]
  | .ld_e_d8 n => [0x1E, n]
  | .rra => [0x1F]
  | .jr_nz_r8 n => [0x20, n]
  | .ld_hl_d16 n => [0x21, loByte n, hiByte n]
  | .ld_at_hli_a => [0x22]
  | .inc_hl => [0x23]
  | .inc_h => [0x24]
  | .dec_h => [0x25]
  | .ld_h_d8 n => [0x26, n]
  | .daa => [0x27]
  | .jr_z_r8 n => [0x28, n]
  | .add_hl_hl => [0x29]
  | .ld_a_at_hli => [0x2A]
  | .dec_hl => [0x2B]
  | .inc_l => [0x2C]
  | .dec_l => [0x2D]
  | .ld_l_d8 n => [0x2E, n]
  | .cpl => [0x2F]
  | .jr_nc_r8 n => [0x30, n]
  | .ld_sp_d16 n => [0x31, loByte n, hiByte n]
  | .ld_at_hld_a => [0x32]
  | .inc_sp => [0x33]
  | .inc_at_hl => [0x34]
  | .dec_at_hl => [0x35]
  | .ld_at_hl_d8 n => [0x36, n]
  | .scf => [0x37]
  | .jr_c_r8 n => [0x38, n]
  | .add_hl_sp => [0x39]
  | .ld_a_at_hld => [0x3A]
  | .dec_sp => [0x3B]
  | .inc_a => [0x3C]
  | .dec_a => [0x3D]
  | .ld_a_d8 n => [0x3E, n]
  | .ccf => [0x3F]
  | .ld_b_b => [0x40]
  | .ld_b_c => [0x41]
  | .ld_b_d => [0x42]
  | .ld_b_e => [0x43]
  | .ld_b_h => [0x44]
  | .ld_b_l => [0x45]
  | .ld_b_at_hl => [0x46]
  | .ld_b_a => [0x47]
  | .ld_c_b => [0x48]
  | .ld_c_c => [0x49]
  | .ld_c_d => [0x4A]
  | .ld_c_e => [0x4B]
  | .ld_c_h => [0x4C]
  | .ld_c_l => [0x4D]
  | .ld_c_at_hl => [0x4E]
  | .ld_c_a => [0x4F]
  | .ld_d_b => [0x50]
  | .ld_d_c => [0x51]
  | .ld_d_d => [0x52]
  | .ld_d_e => [0x53]
  | .ld_d_h => [0x54]
  | .ld_d_l => [0x55]
  | .ld_d_at_hl => [0x56]
  | .ld_d_a => [0x57]
  | .ld_e_b => [0x58]
  | .ld_e_c => [0x59]
  | .ld_e_d => [0x5A]
  | .ld_e_e => [0x5B]
  | .ld_e_h => [0x5C]
  | .ld_e_l => [0x5D]
  | .ld_e_at_hl => [0x5E]
  | .ld_e_a => [0x5F]
  | .ld_h_b => [0x60]
  | .ld_h_c => [0x61]
  | .ld_h_d => [0x62]
  | .ld_h_e => [0x63]
  | .ld_h_h => [0x64]
  | .ld_h_l => [0x65]
  | .ld_h_at_hl => [0x66]
  | .ld_h_a => [0x67]
  | .ld_l_b => [0x68]
  | .ld_l_c => [0x69]
  | .ld_l_d => [0x6A]
  | .ld_l_e => [0x6B]
  | .ld_l_h => [0x6C]
  | .ld_l_l => [0x6D]
  | .ld_l_at_hl => [0x6E]
  | .ld_l_a => [0x6F]
  | .ld_at_hl_b => [0x70]
  | .ld_at_hl_c => [0x71]
  | .ld_at_hl_d => [0x72]
  | .ld_at_hl_e => [0x73]
  | .ld_at_hl_h => [0x74]
  | .ld_at_hl_l => [0x75]
  | .halt => [0x76]
  | .ld_at_hl_a => [0x77]
  | .ld_a_b => [0x78]
  | .ld_a_c => [0x79]
  | .ld_a_d => [0x7A]
  | .ld_a_e => [0x7B]
  | .ld_a_h => [0x7C]
  | .ld_a_l => [0x7D]
  | .ld_a_at_hl => [0x7E]
  | .ld_a_a => [0x7F]
  | .add_a_b => [0x80]
  | .add_a_c => [0x81]
  | .add_a_d => [0x82]
  | .add_a_e => [0x83]
  | .add_a_h => [0x84]
  | .add_a_l => [0x85]
  | .add_a_at_hl => [0x86]
  | .add_a_a => [0x87]
  | .adc_a_b => [0x88]
  | .adc_a_c => [0x89]
  | .adc_a_d => [0x8A]
  | .adc_a_e => [0x8B]
  | .adc_a_h => [0x8C]
  | .adc_a_l => [0x8D]
  | .adc_a_at_hl => [0x8E]
  | .adc_a_a => [0x8F]
  | .sub_a_b => [0x90]
  | .sub_a_c => [0x91]
  | .sub_a_d => [0x92]
  | .sub_a_e => [0x93]
  | .sub_a_h => [0x94]
  | .sub_a_l => [0x95]
  | .sub_a_at_hl => [0x96]
  | .sub_a_a => [0x97]
  | .sbc_a_b => [0x98]
  | .sbc_a_c => [0x99]
  | .sbc_a_d => [0x9A]
  | .sbc_a_e => [0x9B]
  | .sbc_a_h => [0x9C]
  | .sbc_a_l => [0x9D]
  | .sbc_a_at_hl => [0x9E]
  | .sbc_a_a => [0x9F]
  | .and_a_b => [0xA0]
  | .and_a_c => [0xA1]
  | .and_a_d => [0xA2]
  | .and_a_e => [0xA3]
  | .and_a_h => [0xA4]
  | .and_a_l => [0xA5]
  | .and_a_at_hl => [0xA6]
  | .and_a_a => [0xA7]
  | .xor_a_b => [0xA8]
  | .xor_a_c => [0xA9]
  | .xor_a_d => [0xAA]
  | .xor_a_e => [0xAB]
  | .xor_a_h => [0xAC]
  | .xor_a_l => [0xAD]
  | .xor_a_at_hl => [0xAE]
  | .xor_a_a => [0xAF]
  | .or_a_b => [0xB0]
  | .or_a_c => [0xB1]
  | .or_a_d => [0xB2]
  | .or_a_e => [0xB3]
  | .or_a_h => [0xB4]
  | .or_a_l => [0xB5]
  | .or_a_at_hl => [0xB6]
  | .or_a_a => [0xB7]
  | .cp_a_b => [0xB8]
  | .cp_a_c => [0xB9]
  | .cp_a_d => [0xBA]
  | .cp_a_e => [0xBB]
  | .cp_a_h => [0xBC]
  | .cp_a_l => [0xBD]
  | .cp_a_at_hl => [0xBE]
  | .cp_a_a => [0xBF]
  | .ret_nz => [0xC0]
  | .pop_bc => [0xC1]
  | .jp_nz_a16 n => [0xC2, loByte n, hiByte n]
  | .jp_a16 n => [0xC3, loByte n, hiByte n]
  | .call_nz_a16 n => [0xC4, loByte n, hiByte n]
  | .push_bc => [0xC5]
  | .add_a_d8 n => [0xC6, n]
  | .rst_00 => [0xC7]
  | .ret_z => [0xC8]
  | .ret => [0xC9]
  | .jp_z_a16 n => [0xCA, loByte n, hiByte n]
  | .prefix_cb cb => [0xCB, cb]
  | .call_z_a16 n => [0xCC, loByte n, hiByte n]
  | .call_a16 n => [0xCD, loByte n, hiByte n]
  | .adc_a_d8 n => [0xCE, n]
  | .rst_08 => [0xCF]
  | .ret_nc => [0xD0]
  | .pop_de => [0xD1]
  | .jp_nc_a16 n => [0xD2, loByte n, hiByte n]
  | .hole_d3 => [0xD3]
  | .call_nc_a16 n => [0xD4, loByte n, hiByte n]
  | .push_de => [0xD5]
  | .sub_a_d8 n => [0xD6, n]
  | .rst_10 => [0xD7]
  | .ret_c => [0xD8]
  | .reti => [0xD9]
  | .jp_c_a16 n => [0xDA, loByte n, hiByte n]
  | .hole_db => [0xDB]
  | .call_c_a16 n => [0xDC, loByte n, hiByte n]
  | .hole_dd => [0xDD]
  | .sbc_a_d8 n => [0xDE, n]
  | .rst_18 => [0xDF]
  | .ldh_at_a8_a n => [0xE0, n]
  | .pop_hl => [0xE1]
  | .ld_at_c_a => [0xE2]
  | .hole_e3 => [0xE3]
  | .hole_e4 => [0xE4]
  | .push_hl => [0xE5]
  | .and_a_d8 n => [0xE6, n]
  | .rst_20 => [0xE7]
  | .add_sp_r8 n => [0xE8, n]
  | .jp_at_hl => [0xE9]
  | .ld_at_a16_a n => [0xEA, loByte n, hiByte n]
  | .hole_eb => [0xEB]
  | .hole_ec => [0xEC]
  | .hole_ed => [0xED]
  | .xor_a_d8 n => [0xEE, n]
  | .rst_28 => [0xEF]
  | .ldh_a_at_a8 n => [0xF0, n]
  | .pop_af => [0xF1]
  | .ld_a_at_c => [0xF2]
  | .di => [0xF3]
  | .hole_f4 => [0xF4]
  | .push_af => [0xF5]
  | .or_a_d8 n => [0xF6, n]
  | .rst_30 => [0xF7]
  | .ld_hl_sp_r8 n => [0xF8, n]
  | .ld_sp_hl => [0xF9]
  | .ld_a_at_a16 n => [0xFA, loByte n, hiByte n]
  | .ei => [0xFB]
  | .hole_fc => [0xFC]
  | .hole_fd => [0xFD]
  | .cp_a_d8 n => [0xFE, n]
  | .rst_38 => [0xFF]
  | .rlc_b => [0xCB, 0x00]
  | .rlc_c => [0xCB, 0x01]
  | .rlc_d => [0xCB, 0x02]
  | .rlc_e => [0xCB, 0x03]
  | .rlc_h => [0xCB, 0x04]
  | .rlc_l => [0xCB, 0x05]
  | .rlc_at_hl => [0xCB, 0x06]
  | .rlc_a => [0xCB, 0x07]
  | .rrc_b => [0xCB, 0x08]
  | .rrc_c => [0xCB, 0x09]
  | .rrc_d => [0xCB, 0x0A]
  | .rrc_e => [0xCB, 0x0B]
  | .rrc_h => [0xCB, 0x0C]
  | .rrc_l => [0xCB, 0x0D]
  | .rrc_at_hl => [0xCB, 0x0E]
  | .rrc_a => [0xCB, 0x0F]
  | .rl_b => [0xCB, 0x10]
  | .rl_c => [0xCB, 0x11]
  | .rl_d => [0xCB, 0x12]
  | .rl_e => [0xCB, 0x13]
  | .rl_h => [0xCB, 0x14]
  | .rl_l => [0xCB, 0x15]
  | .rl_at_hl => [0xCB, 0x16]
  | .rl_a => [0xCB, 0x17]
  | .rr_b => [0xCB, 0x18]
  | .rr_c => [0xCB, 0x19]
  | .rr_d => [0xCB, 0x1A]
  | .rr_e => [0xCB, 0x1B]
  | .rr_h => [0xCB, 0x1C]
  | .rr_l => [0xCB, 0x1D]
  | .rr_at_hl => [0xCB, 0x1E]
  | .rr_a => [0xCB, 0x1F]
  | .sla_b => [0xCB, 0x20]
  | .sla_c => [0xCB, 0x21]
  | .sla_d => [0xCB, 0x22]
  | .sla_e => [0xCB, 0x23]
  | .sla_h => [0xCB, 0x24]
  | .sla_l => [0xCB, 0x25]
  | .sla_at_hl => [0xCB, 0x26]
  | .sla_a => [0xCB, 0x27]
  | .sra_b => [0xCB, 0x28]
  | .sra_c => [0xCB, 0x29]
  | .sra_d => [0xCB, 0x2A]
  | .sra_e => [0xCB, 0x2B]
  | .sra_h => [0xCB, 0x2C]
  | .sra_l => [0xCB, 0x2D]
  | .sra_at_hl => [0xCB, 0x2E]
  | .sra_a => [0xCB, 0x2F]
  | .swap_b => [0xCB, 0x30]
  | .swap_c => [0xCB, 0x31]
  | .swap_d => [0xCB, 0x32]
  | .swap_e => [0xCB, 0x33]
  | .swap_h => [0xCB, 0x34]
  | .swap_l => [0xCB, 0x35]
  | .swap_at_hl => [0xCB, 0x36]
  | .swap_a => [0xCB, 0x37]
  | .srl_b => [0xCB, 0x38]
  | .srl_c => [0xCB, 0x39]
  | .srl_d => [0xCB, 0x3A]
  | .srl_e => [0xCB, 0x3B]
  | .srl_h => [0xCB, 0x3C]
  | .srl_l => [0xCB, 0x3D]
  | .srl_at_hl => [0xCB, 0x3E]
  | .srl_a => [0xCB, 0x3F]
  | .bit_0_b => [0xCB, 0x40]
  | .bit_0_c => [0xCB, 0x41]
  | .bit_0_d => [0xCB, 0x42]
  | .bit_0_e => [0xCB, 0x43]
  | .bit_0_h => [0xCB, 0x44]
  | .bit_0_l => [0xCB, 0x45]
  | .bit_0_at_hl => [0xCB, 0x46]
  | .bit_0_a => [0xCB, 0x47]
  | .bit_1_b => [0xCB, 0x48]
  | .bit_1_c => [0xCB, 0x49]
  | .bit_1_d => [0xCB, 0x4A]
  | .bit_1_e => [0xCB, 0x4B]
  | .bit_1_h => [0xCB, 0x4C]
  | .bit_1_l => [0xCB, 0x4D]
  | .bit_1_at_hl => [0xCB, 0x4E]
  | .bit_1_a => [0xCB, 0x4F]
  | .bit_2_b => [0xCB, 0x50]
  | .bit_2_c => [0xCB, 0x51]
  | .bit_2_d => [0xCB, 0x52]
  | .bit_2_e => [0xCB, 0x53]
  | .bit_2_h => [0xCB, 0x54]
  | .bit_2_l => [0xCB, 0x55]
  | .bit_2_at_hl => [0xCB, 0x56]
  | .bit_2_a => [0xCB, 0x57]
  | .bit_3_b => [0xCB, 0x58]
  | .bit_3_c => [0xCB, 0x59]
  | .bit_3_d => [0xCB, 0x5A]
  | .bit_3_e => [0xCB, 0x5B]
  | .bit_3_h => [0xCB, 0x5C]
  | .bit_3_l => [0xCB, 0x5D]
  | .bit_3_at_hl => [0xCB, 0x5E]
  | .bit_3_a => [0xCB, 0x5F]
  | .bit_4_b => [0xCB, 0x60]
  | .bit_4_c => [0xCB, 0x61]
  | .bit_4_d => [0xCB, 0x62]
  | .bit_4_e => [0xCB, 0x63]
  | .bit_4_h => [0xCB, 0x64]
  | .bit_4_l => [0xCB, 0x65]
  | .bit_4_at_hl => [0xCB, 0x66]
  | .bit_4_a => [0xCB, 0x67]
  | .bit_5_b => [0xCB, 0x68]
  | .bit_5_c => [0xCB, 0x69]
  | .bit_5_d => [0xCB, 0x6A]
  | .bit_5_e => [0xCB, 0x6B]
  | .bit_5_h => [0xCB, 0x6C]
  | .bit_5_l => [0xCB, 0x6D]
  | .bit_5_at_hl => [0xCB, 0x6E]
  | .bit_5_a => [0xCB, 0x6F]
  | .bit_6_b => [0xCB, 0x70]
  | .bit_6_c => [0xCB, 0x71]
  | .bit_6_d => [0xCB, 0x72]
  | .bit_6_e => [0xCB, 0x73]
  | .bit_6_h => [0xCB, 0x74]
  | .bit_6_l => [0xCB, 0x75]
  | .bit_6_at_hl => [0xCB, 0x76]
  | .bit_6_a => [0xCB, 0x77]
  | .bit_7_b => [0xCB, 0x78]
  | .bit_7_c => [0xCB, 0x79]
  | .bit_7_d => [0xCB, 0x7A]
  | .bit_7_e => [0xCB, 0x7B]
  | .bit_7_h => [0xCB, 0x7C]
  | .bit_7_l => [0xCB, 0x7D]
  | .bit_7_at_hl => [0xCB, 0x7E]
  | .bit_7_a => [0xCB, 0x7F]
  | .res_0_b => [0xCB, 0x80]
  | .res_0_c => [0xCB, 0x81]
  | .res_0_d => [0xCB, 0x82]
  | .res_0_e => [0xCB, 0x83]
  | .res_0_h => [0xCB, 0x84]
  | .res_0_l => [0xCB, 0x85]
  | .res_0_at_hl => [0xCB, 0x86]
  | .res_0_a => [0xCB, 0x87]
  | .res_1_b => [0xCB, 0x88]
  | .res_1_c => [0xCB, 0x89]
  | .res_1_d => [0xCB, 0x8A]
  | .res_1_e => [0xCB, 0x8B]
  | .res_1_h => [0xCB, 0x8C]
  | .res_1_l => [0xCB, 0x8D]
  | .res_1_at_hl => [0xCB, 0x8E]
  | .res_1_a => [0xCB, 0x8F]
  | .res_2_b => [0xCB, 0x90]
  | .res_2_c => [0xCB, 0x91]
  | .res_2_d => [0xCB, 0x92]
  | .res_2_e => [0xCB, 0x93]
  | .res_2_h => [0xCB, 0x94]
  | .res_2_l => [0xCB, 0x95]
  | .res_2_at_hl => [0xCB, 0x96]
  | .res_2_a => [0xCB, 0x97]
  | .res_3_b => [0xCB, 0x98]
  | .res_3_c => [0xCB, 0x99]
  | .res_3_d => [0xCB, 0x9A]
  | .res_3_e => [0xCB, 0x9B]
  | .res_3_h => [0xCB, 0x9C]
  | .res_3_l => [0xCB, 0x9D]
  | .res_3_at_hl => [0xCB, 0x9E]
  | .res_3_a => [0xCB, 0x9F]
  | .res_4_b => [0xCB, 0xA0]
  | .res_4_c => [0xCB, 0xA1]
  | .res_4_d => [0xCB, 0xA2]
  | .res_4_e => [0xCB, 0xA3]
  | .res_4_h => [0xCB, 0xA4]
  | .res_4_l => [0xCB, 0xA5]
  | .res_4_at_hl => [0xCB, 0xA6]
  | .res_4_a => [0xCB, 0xA7]
  | .res_5_b => [0xCB, 0xA8]
  | .res_5_c => [0xCB, 0xA9]
  | .res_5_d => [0xCB, 0xAA]
  | .res_5_e => [0xCB, 0xAB]
  | .res_5_h => [0xCB, 0xAC]
  | .res_5_l => [0xCB, 0xAD]
  | .res_5_at_hl => [0xCB, 0xAE]
  | .res_5_a => [0xCB, 0xAF]
  | .res_6_b => [0xCB, 0xB0]
  | .res_6_c => [0xCB, 0xB1]
  | .res_6_d => [0xCB, 0xB2]
  | .res_6_e => [0xCB, 0xB3]
  | .res_6_h => [0xCB, 0xB4]
  | .res_6_l => [0xCB, 0xB5]
  | .res_6_at_hl => [0xCB, 0xB6]
  | .res_6_a => [0xCB, 0xB7]
  | .res_7_b => [0xCB, 0xB8]
  | .res_7_c => [0xCB, 0xB9]
  | .res_7_d => [0xCB, 0xBA]
  | .res_7_e => [0xCB, 0xBB]
  | .res_7_h => [0xCB, 0xBC]
  | .res_7_l => [0xCB, 0xBD]
  | .res_7_at_hl => [0xCB, 0xBE]
  | .res_7_a => [0xCB, 0xBF]
  | .set_0_b => [0xCB, 0xC0]
  | .set_0_c => [0xCB, 0xC1]
  | .set_0_d => [0xCB, 0xC2]
  | .set_0_e => [0xCB, 0xC3]
  | .set_0_h => [0xCB, 0xC4]
  | .set_0_l => [0xCB, 0xC5]
  | .set_0_at_hl => [0xCB, 0xC6]
  | .set_0_a => [0xCB, 0xC7]
  | .set_1_b => [0xCB, 0xC8]
  | .set_1_c => [0xCB, 0xC9]
  | .set_1_d => [0xCB, 0xCA]
  | .set_1_e => [0xCB, 0xCB]
  | .set_1_h => [0xCB, 0xCC]
  | .set_1_l => [0xCB, 0xCD]
  | .set_1_at_hl => [0xCB, 0xCE]
  | .set_1_a => [0xCB, 0xCF]
  | .set_2_b => [0xCB, 0xD0]
  | .set_2_c => [0xCB, 0xD1]
  | .set_2_d => [0xCB, 0xD2]
  | .set_2_e => [0xCB, 0xD3]
  | .set_2_h => [0xCB, 0xD4]
  | .set_2_l => [0xCB, 0xD5]
  | .set_2_at_hl => [0xCB, 0xD6]
  | .set_2_a => [0xCB, 0xD7]
  | .set_3_b => [0xCB, 0xD8]
  | .set_3_c => [0xCB, 0xD9]
  | .set_3_d => [0xCB, 0xDA]
  | .set_3_e => [0xCB, 0xDB]
  | .set_3_h => [0xCB, 0xDC]
  | .set_3_l => [0xCB, 0xDD]
  | .set_3_at_hl => [0xCB, 0xDE]
  | .set_3_a => [0xCB, 0xDF]
  | .set_4_b => [0xCB, 0xE0]
  | .set_4_c => [0xCB, 0xE1]
  | .set_4_d => [0xCB, 0xE2]
  | .set_4_e => [0xCB, 0xE3]
  | .set_4_h => [0xCB, 0xE4]
  | .set_4_l => [0xCB, 0xE5]
  | .set_4_at_hl => [0xCB, 0xE6]
  | .set_4_a => [0xCB, 0xE7]
  | .set_5_b => [0xCB, 0xE8]
  | .set_5_c => [0xCB, 0xE9]
  | .set_5_d => [0xCB, 0xEA]
  | .set_5_e => [0xCB, 0xEB]
  | .set_5_h => [0xCB, 0xEC]
  | .set_5_l => [0xCB, 0xED]
  | .set_5_at_hl => [0xCB, 0xEE]
  | .set_5_a => [0xCB, 0xEF]
  | .set_6_b => [0xCB, 0xF0]
  | .set_6_c => [0xCB, 0xF1]
  | .set_6_d => [0xCB, 0xF2]
  | .set_6_e => [0xCB, 0xF3]
  | .set_6_h => [0xCB, 0xF4]
  | .set_6_l => [0xCB, 0xF5]
  | .set_6_at_hl => [0xCB, 0xF6]
  | .set_6_a => [0xCB, 0xF7]
  | .set_7_b => [0xCB, 0xF8]
  | .set_7_c => [0xCB, 0xF9]
  | .set_7_d => [0xCB, 0xFA]
  | .set_7_e => [0xCB, 0xFB]
  | .set_7_h => [0xCB, 0xFC]
  | .set_7_l => [0xCB, 0xFD]
  | .set_7_at_hl => [0xCB, 0xFE]
  | .set_7_a => [0xCB, 0xFF]

/-- The length in bytes (R110, R119). -/
def Instr.length (i : Instr) : Nat := (encode i).length

/-- The length a decoder tells from the first byte alone (R119). -/
def lengthByFirst (op : Byte) : Nat :=
  match primaryRow op with
  | .op _ => 1
  | .d8 _ => 2
  | .d16 _ => 3
  | .cbPrefix => 2

/-- The table and byte that select an instruction (R117). -/
def Instr.opcode (i : Instr) : Opcode :=
  match encode i with
  | 0xCB :: cb :: _ => ⟨.cb, cb⟩
  | op :: _ => ⟨.primary, op⟩
  | [] => ⟨.primary, 0x00⟩

/-- How many bytes the step has fetched when it asks for admission: the opcode byte, or the prefix and its second byte
(R118). -/
def Opcode.fetched (op : Opcode) : Nat :=
  match op.table with
  | .primary => 1
  | .cb => 2

/-! ## Admission (R117) -/

/-- The class of an opcode (R117). -/
inductive OpClass where
  | named
  | extra
  | hole
  deriving DecidableEq, Repr

/-- The eleven holes (R116). -/
def holes : List Byte := [0xD3, 0xDB, 0xDD, 0xE3, 0xE4, 0xEB, 0xEC, 0xED, 0xF4, 0xFC, 0xFD]

/-- The 26 primary extras (R117). -/
def primaryExtras : List Byte :=
  [0x00, 0x08, 0x10, 0x27, 0x2F, 0x37, 0x3F, 0x76, 0xC0, 0xC8, 0xD0, 0xD8, 0xC4] ++
  [0xCC, 0xD4, 0xDC, 0xD9, 0xE0, 0xE2, 0xE9, 0xEA, 0xF0, 0xF2, 0xF8, 0xF9, 0xFA]

/-- The CB extras: every RLC, RRC, SLA, SRA and SET, and the (HL) form of every other CB instruction (R117). -/
def isCbExtra (cb : Byte) : Bool :=
  fieldZ cb = 6 ||
  match fieldX cb with
  | 0 => !([2, 3, 6, 7].contains (fieldY cb))
  | 3 => true
  | _ => false

/-- The class of an opcode (R117). -/
def Opcode.cls (op : Opcode) : OpClass :=
  match op.table with
  | .primary => if holes.contains op.byte then .hole else if primaryExtras.contains op.byte then .extra else .named
  | .cb => if isCbExtra op.byte then .extra else .named

/-- `ADMIT(op)` (R117): named opcodes always, holes never, an extra when it is in `ADMIT_EXTRA`; 0x10 STOP is in it in no
configuration (47_system.md R404). -/
def admits (cfg : Config) (op : Opcode) : Bool :=
  match op.cls with
  | .named => true
  | .extra => op ≠ ⟨.primary, 0x10⟩ && !(cfg.withheld.contains op)
  | .hole => false

/-- `HALT_MODE` follows `ADMIT_EXTRA` (00_scope.md R8, 47_system.md R403): `halt` when 0x76 is admitted. -/
def haltMode (cfg : Config) : HaltMode :=
  if admits cfg ⟨.primary, 0x76⟩ then .halt else .fatal

/-! ## The host's words -/

/-- The first three bytes of an instruction given as a number (log entry 13). A 16-bit row of spec/opcode_table.json is
`first byte * 256 + second byte` with first byte 0xCB (R122); otherwise the first byte is bits 7..0. -/
def tableBytes (nbits w : Nat) : Byte × Byte × Byte :=
  if nbits = 16 ∧ w / 256 % 256 = 0xCB then (0xCB, BitVec.ofNat 8 w, 0x00)
  else
    let w := w % 2 ^ nbits
    (BitVec.ofNat 8 w, BitVec.ofNat 8 (w / 256), BitVec.ofNat 8 (w / 65536))

/-- The instruction the decoder reads from such a number. -/
def decodeTableWord (nbits w : Nat) : Option Instr :=
  let b := tableBytes nbits w
  match decode [b.1, b.2.1, b.2.2] with
  | .ok (i, _) => some i
  | .error _ => none

end Sys2Proof
end

