-- ==== Sys2Proof/Machine/Ops.lean ====
section
/-! DEFINITION. The shared operations over registers, memory, the stack, interrupts and the fatal fault, each from the
rule its docstring cites. -/

namespace Sys2Proof.Machine

/-! ## Registers (10_state.md R20 to R23) -/

/-- `reg[r]` (00_scope.md R14). -/
def State.reg (s : State) : Reg8 → Byte
  | .b => s.b
  | .c => s.c
  | .d => s.d
  | .e => s.e
  | .h => s.h
  | .l => s.l
  | .a => s.a

/-- `reg[r] <- v`: one byte, no other (R21). -/
def State.setReg (s : State) (r : Reg8) (v : Byte) : State :=
  match r with
  | .b => { s with b := v }
  | .c => { s with c := v }
  | .d => { s with d := v }
  | .e => { s with e := v }
  | .h => { s with h := v }
  | .l => { s with l := v }
  | .a => { s with a := v }

/-- F as read: F[3:0] reads 0 always (R23). -/
def State.readF (s : State) : Byte := s.f &&& 0xF0

/-- A write of a whole byte to F stores `v & 0xF0` (R23). -/
def State.writeF (s : State) (v : Byte) : State := { s with f := v &&& 0xF0 }

/-- Z = F[7] (R23). -/
def State.flagZ (s : State) : Bool := s.f.getLsbD 7

/-- N = F[6] (R23). -/
def State.flagN (s : State) : Bool := s.f.getLsbD 6

/-- H = F[5] (R23). -/
def State.flagH (s : State) : Bool := s.f.getLsbD 5

/-- C = F[4] (R23). -/
def State.flagC (s : State) : Bool := s.f.getLsbD 4

/-- F holding the four flags (R23). -/
def packF (z n h c : Bool) : Byte :=
  BitVec.ofBool z ++ BitVec.ofBool n ++ BitVec.ofBool h ++ BitVec.ofBool c ++ 0#4

/-- `flags <- (z, n, h, c)` (00_scope.md R14). -/
def State.setFlags (s : State) (z n h c : Bool) : State := { s with f := packF z n h c }

/-- `pair[rp]`, or SP (R22, R112). -/
def State.pair (s : State) : Pair → Word
  | .bc => join s.b s.c
  | .de => join s.d s.e
  | .hl => join s.h s.l
  | .sp => s.sp

/-- `pair[rp] <- v` (R22). -/
def State.setPair (s : State) (p : Pair) (v : Word) : State :=
  match p with
  | .bc => { s with b := hiByte v, c := loByte v }
  | .de => { s with d := hiByte v, e := loByte v }
  | .hl => { s with h := hiByte v, l := loByte v }
  | .sp => { s with sp := v }

/-- `pair[rp2]` (R22, R112). -/
def State.stackPair (s : State) : StackPair → Word
  | .bc => join s.b s.c
  | .de => join s.d s.e
  | .hl => join s.h s.l
  | .af => join s.a s.readF

/-- `pair[rp2] <- v`; for AF the write to F obeys R23 (R22, 41_load16_stack.md R237). -/
def State.setStackPair (s : State) (p : StackPair) (v : Word) : State :=
  match p with
  | .bc => { s with b := hiByte v, c := loByte v }
  | .de => { s with d := hiByte v, e := loByte v }
  | .hl => { s with h := hiByte v, l := loByte v }
  | .af => { s with a := hiByte v }.writeF (loByte v)

/-! ## The backing array (00_scope.md R15) -/

/-- `Direct(a)`. -/
def State.direct (s : State) (a : Word) : Byte := Memory.get .backing s.backing a.toNat

/-- `Direct(a) <- v`. -/
def State.setDirect (s : State) (a : Word) (v : Byte) : State :=
  { s with backing := Memory.set .backing s.backing a.toNat v }

/-! ## The cartridge (20_memory.md R69 to R77) -/

/-- The ROM bank an MBC1 shows at 0x4000 to 0x7FFF, before the reduction by NBANKS (R70). -/
def Mbc1.romBank (m : Mbc1) : Nat :=
  match m.mode1 with
  | .rom => m.bankHi.toNat * 32 + m.bankLo.toNat
  | .ram => m.bankLo.toNat

/-- The offset in ROM_IMAGE that an address below 0x8000 reads (R69 RomOnly, R70 MBC1). -/
def State.romOffset (s : State) (a : Word) : Nat :=
  match s.mapper with
  | .romOnly => a.toNat
  | .mbc1 m => if a.toNat ≤ 0x3FFF then a.toNat else m.romBank % s.romBanks * 0x4000 + (a.toNat - 0x4000)

/-- `MapperRead(a)` (R69, R70). -/
def State.mapperRead (s : State) (a : Word) : Byte := Memory.get .rom s.rom (s.romOffset a)

/-- An MBC1 control write: R71 below 0x2000, R72 below 0x4000, R73 below 0x6000, R74 below 0x8000. -/
def Mbc1.control (m : Mbc1) (a : Word) (v : Byte) : Mbc1 :=
  if a.toNat ≤ 0x1FFF then { m with ramEn := v &&& 0x0F == 0x0A }
  else if a.toNat ≤ 0x3FFF then
    { m with bankLo := if v.extractLsb' 0 5 = 0 then 1 else v.extractLsb' 0 5 }
  else if a.toNat ≤ 0x5FFF then { m with bankHi := v.extractLsb' 0 2 }
  else { m with mode1 := if v.getLsbD 0 then .ram else .rom }

/-- `MapperWrite(a, v)`: nothing for RomOnly (R69), a control write for MBC1. -/
def State.mapperWrite (s : State) (a : Word) (v : Byte) : State :=
  match s.mapper with
  | .romOnly => s
  | .mbc1 m => { s with mapper := .mbc1 (m.control a v) }

/-- The offset in RAM_IMAGE that an address 0xA000 to 0xBFFF names on an MBC1; none when RAM is disabled or absent (R75). -/
def State.cartRamOffset (s : State) (m : Mbc1) (a : Word) : Option Nat :=
  let banks := s.cfg.ramBanks.count
  if m.ramEn = false ∨ banks = 0 then none
  else
    let rb := match m.mode1 with
      | .ram => m.bankHi.toNat
      | .rom => 0
    some (rb % banks * 0x2000 + (a.toNat - 0xA000))

/-- `CartRamRead(a)` (R75 MBC1, R77 RomOnly). -/
def State.cartRamRead (s : State) (a : Word) : Byte :=
  match s.mapper with
  | .romOnly => s.direct a
  | .mbc1 m =>
    match s.cartRamOffset m a with
    | none => 0xFF
    | some o => Memory.get .cartRam s.cartRam o

/-- `CartRamWrite(a, v)` (R75 MBC1, R77 RomOnly). -/
def State.cartRamWrite (s : State) (a : Word) (v : Byte) : State :=
  match s.mapper with
  | .romOnly => s.setDirect a v
  | .mbc1 m =>
    match s.cartRamOffset m a with
    | none => s
    | some o => { s with cartRam := Memory.set .cartRam s.cartRam o v }

/-! ## The router (20_memory.md R62, R63) -/

/-- Is `a` in the echo region (R65)? -/
def isEcho (a : Word) : Bool := 0xE000 ≤ a.toNat && a.toNat ≤ 0xFDFF

/-- `MemRead(a, 1)`: the first match wins (R62). -/
def State.read (s : State) (a : Word) : Byte :=
  if a.toNat ≤ 0x7FFF then s.mapperRead a
  else if 0xA000 ≤ a.toNat ∧ a.toNat ≤ 0xBFFF then s.cartRamRead a
  else if isEcho a then s.direct (a - 0x2000)
  else if 0xFEA0 ≤ a.toNat ∧ a.toNat ≤ 0xFEFF then 0xFF
  else if a = 0xFF0F then s.direct 0xFF0F ||| 0xE0
  else s.direct a

/-- `MemWrite(a, 1, v)` (R63; the STAT mask is R68). -/
def State.write (s : State) (a : Word) (v : Byte) : State :=
  if a.toNat ≤ 0x7FFF then s.mapperWrite a v
  else if 0xA000 ≤ a.toNat ∧ a.toNat ≤ 0xBFFF then s.cartRamWrite a v
  else if isEcho a then s.setDirect (a - 0x2000) v
  else if a = 0xFF41 then s.setDirect 0xFF41 ((s.direct 0xFF41 &&& 0x07) ||| (v &&& 0xF8))
  else s.setDirect a v

/-- `MemRead(a, 2)`: the low byte at the lower address, first (R78). -/
def State.read16 (s : State) (a : Word) : Word := join (s.read (a + 1)) (s.read a)

/-- `MemWrite(a, 2, v)`: the low byte at `a`, then the high byte at `a + 1` (R78). -/
def State.write16 (s : State) (a : Word) (v : Word) : State := (s.write a (loByte v)).write (a + 1) (hiByte v)

/-- `sext_16` of a signed byte (00_scope.md R13, 20_memory.md R79). -/
def sext16 (v : Byte) : Word := v.signExtend 16

/-! ## The stack (41_load16_stack.md R230) -/

/-- `Push16(v)`: high byte then low byte, SP decremented before each. -/
def State.push16 (s : State) (v : Word) : State :=
  let s := { s with sp := s.sp - 1 }
  let s := s.write s.sp (hiByte v)
  let s := { s with sp := s.sp - 1 }
  s.write s.sp (loByte v)

/-- The word `Pop16()` returns: low byte at SP, high byte at SP + 1. -/
def State.popValue (s : State) : Word := join (s.read (s.sp + 1)) (s.read s.sp)

/-- `Pop16()`'s effect: SP advances by two. -/
def State.popSp (s : State) : State := { s with sp := s.sp + 2 }

/-! ## Ending a step -/

/-- `return n` (00_scope.md R16): the step completes and returns its cycle count. -/
def done (n : Nat) (s : State) : Result := .next { s with returned := some n }

/-! ## Taking the fatal fault (60_exceptions.md R500, 47_system.md R406) -/

/-- `raise Fatal(info)`: FAULT is set and nothing else is written; the step returns no count (70_reset_and_hazards.md R620). -/
def State.raiseFatal (s : State) (info : FatalInfo) : State := { s with fault := some info, returned := none }

/-! ## Interrupts (60_exceptions.md R501 to R505) -/

/-- The five sources (R501). -/
inductive IntSource where
  | vBlank
  | lcdStat
  | timer
  | serial
  | joypad
  deriving DecidableEq, Repr

/-- The sources in priority order, highest first (R501). -/
def intSources : List IntSource := [.vBlank, .lcdStat, .timer, .serial, .joypad]

/-- The IF and IE bit of a source (R501). -/
def IntSource.bit : IntSource → Nat
  | .vBlank => 0
  | .lcdStat => 1
  | .timer => 2
  | .serial => 3
  | .joypad => 4

/-- The vector of a source (R501). -/
def IntSource.vector : IntSource → Word
  | .vBlank => 0x0040
  | .lcdStat => 0x0048
  | .timer => 0x0050
  | .serial => 0x0058
  | .joypad => 0x0060

/-- `pending` (R502): the stored IF and the stored IE, five bits. -/
def State.pending (s : State) : Byte := s.direct 0xFF0F &&& s.direct 0xFFFF &&& 0x1F

/-- The pending source of highest priority (R503). -/
def State.firstPending (s : State) : Option IntSource := intSources.find? fun k => s.pending.getLsbD k.bit

/-- `Dispatch()` of source `k` (R504): clear IF[k], push PC, jump to the vector, clear IME; HALTED is cleared too (R118). -/
def State.dispatch (s : State) (k : IntSource) : State :=
  let s := s.setDirect 0xFF0F (s.direct 0xFF0F &&& ~~~(1#8 <<< k.bit))
  let s := s.push16 s.pc
  { s with pc := k.vector, ime := false, halted := false }

/-- The EI commit, phase 2 of a step that does not dispatch (R505). -/
def State.commitEi (s : State) : State := if s.eip then { s with eip := false, ime := true } else s

/-- The return from an interrupt (46_control.md R380): pop PC, then enable interrupts at once or through EIP. -/
def State.returnFromInterrupt (s : State) : State :=
  let s := { s.popSp with pc := s.popValue }
  match s.cfg.retiMode with
  | .immediate => { s with ime := true }
  | .delayed => { s with eip := true }

/-! ## Fetching (30_encoding.md R113, R118) -/

/-- The instruction whose bytes stand at PC. Three bytes are read through the router; reads have no effects (20_memory.md
R85), so reading past a shorter instruction changes nothing (log entry 10). -/
def State.fetched (s : State) : Instr := decode3 (s.read s.pc) (s.read (s.pc + 1)) (s.read (s.pc + 2))

/-- PC past `n` fetched bytes, wrapping (R113). -/
def State.advance (s : State) (n : Nat) : State := { s with pc := s.pc + BitVec.ofNat 16 n }

/-! ## Placing bytes from outside the machine (log entry 18) -/

/-- Change what a read of `a` gives, in the store the router reads for it; nothing where the router reads a constant. -/
def State.poke (s : State) (a : Word) (v : Byte) : State :=
  if a.toNat ≤ 0x7FFF then { s with rom := Memory.set .rom s.rom (s.romOffset a) v }
  else if 0xA000 ≤ a.toNat ∧ a.toNat ≤ 0xBFFF then s.cartRamWrite a v
  else if isEcho a then s.setDirect (a - 0x2000) v
  else s.setDirect a v

end Sys2Proof.Machine
end

