-- ==== Sys2Proof/Machine/Operands.lean ====
section
/-! DEFINITION. Operand forms: the `r` operand (30_encoding.md R120), the source of an ALU operation (42_alu8.md R263),
the HL addressing modes, and conditions (46_control.md R370). -/

namespace Sys2Proof.Machine

/-- `ReadR(z)` (R120). -/
def State.readR (s : State) : Operand8 → Byte
  | .reg r => s.reg r
  | .atHl => s.read (s.pair .hl)

/-- `WriteR(z, v)` (R120). -/
def State.writeR (s : State) (o : Operand8) (v : Byte) : State :=
  match o with
  | .reg r => s.setReg r v
  | .atHl => s.write (s.pair .hl) v

/-- The source of an ALU operation (R263). -/
inductive AluSrc where
  | operand (o : Operand8)
  | imm (n : Byte)
  deriving DecidableEq, Repr

/-- `s` (R263). -/
def State.aluSrc (s : State) : AluSrc → Byte
  | .operand o => s.readR o
  | .imm n => n

/-- The cycles of an operation on an `r` operand: `reg` for a register, `mem` for (HL). -/
def operandCycles (o : Operand8) (reg mem : Nat) : Nat :=
  match o with
  | .reg _ => reg
  | .atHl => mem

/-- The cycles column of R263. -/
def AluSrc.cycles : AluSrc → Nat
  | .operand o => operandCycles o 4 8
  | .imm _ => 8

/-- The address 0xFF00 + n of LDH and LD (C) (R113 `a8`, 40_load8.md R213, R215). -/
def highAddr (n : Byte) : Word := join 0xFF n

/-- HL + 1, the post-increment of (HL+) (40_load8.md R209, R211). -/
def State.hlInc (s : State) : State := s.setPair .hl (s.pair .hl + 1)

/-- HL - 1, the post-decrement of (HL-) (40_load8.md R210, R212). -/
def State.hlDec (s : State) : State := s.setPair .hl (s.pair .hl - 1)

/-- `cond(cc)` (46_control.md R370). -/
def State.cond (s : State) : Cond → Bool
  | .nz => !s.flagZ
  | .z => s.flagZ
  | .nc => !s.flagC
  | .c => s.flagC

/-- The target of JR: PC, already past the instruction, plus the signed displacement (46_control.md R374). -/
def State.relTarget (s : State) (e : Byte) : Word := s.pc + sext16 e

/-- The target of RST: y * 8 (46_control.md R381). -/
def rstTarget (y : Fin 8) : Word := BitVec.ofNat 16 (y.val * 8)

end Sys2Proof.Machine
end

