-- ==== Sys2Proof/Machine/Load16.lean ====
section
/-! DEFINITION. 16-bit loads and the stack (41_load16_stack.md R231 to R237), and SP plus a signed byte (R234, 43_alu16.md R303). Cycle
counts are the cycles column of spec/opcode_table.json (70_reset_and_hazards.md R620, log entry 9). -/

namespace Sys2Proof.Machine

/-- SP plus a signed byte into HL (R234) or SP (43_alu16.md R303): `flags <- (0, 0, h, c)`. -/
def spPlus (dst : Pair) (e : Byte) (n : Nat) (s : State) : Result :=
  let r := spAdd s.sp e
  done n ((s.setPair dst r.res).setFlags false false r.h r.c)

/-- LD BC,d16 (R231). -/
def exec_ld_bc_d16 (n : Word) (s : State) : Result := done 12 (s.setPair .bc n)

/-- LD (a16),SP (R232). -/
def exec_ld_at_a16_sp (n : Word) (s : State) : Result := done 20 (s.write16 n s.sp)

/-- LD DE,d16 (R231). -/
def exec_ld_de_d16 (n : Word) (s : State) : Result := done 12 (s.setPair .de n)

/-- LD HL,d16 (R231). -/
def exec_ld_hl_d16 (n : Word) (s : State) : Result := done 12 (s.setPair .hl n)

/-- LD SP,d16 (R231). -/
def exec_ld_sp_d16 (n : Word) (s : State) : Result := done 12 (s.setPair .sp n)

/-- POP BC (R236). -/
def exec_pop_bc (s : State) : Result := done 12 (s.popSp.setStackPair .bc s.popValue)

/-- PUSH BC (R235). -/
def exec_push_bc (s : State) : Result := done 16 (s.push16 (s.stackPair .bc))

/-- POP DE (R236). -/
def exec_pop_de (s : State) : Result := done 12 (s.popSp.setStackPair .de s.popValue)

/-- PUSH DE (R235). -/
def exec_push_de (s : State) : Result := done 16 (s.push16 (s.stackPair .de))

/-- POP HL (R236). -/
def exec_pop_hl (s : State) : Result := done 12 (s.popSp.setStackPair .hl s.popValue)

/-- PUSH HL (R235). -/
def exec_push_hl (s : State) : Result := done 16 (s.push16 (s.stackPair .hl))

/-- POP AF (R237). -/
def exec_pop_af (s : State) : Result := done 12 (s.popSp.setStackPair .af s.popValue)

/-- PUSH AF (R235). -/
def exec_push_af (s : State) : Result := done 16 (s.push16 (s.stackPair .af))

/-- LD HL,SP+r8 (R234). -/
def exec_ld_hl_sp_r8 (n : Byte) (s : State) : Result := spPlus .hl n 12 s

/-- LD SP,HL (R233). -/
def exec_ld_sp_hl (s : State) : Result := done 8 (s.setPair .sp (s.pair .hl))

end Sys2Proof.Machine
end

