-- ==== Sys2Proof/Machine/Alu16.lean ====
section
/-! DEFINITION. 16-bit arithmetic (43_alu16.md R300 to R303). Cycle
counts are the cycles column of spec/opcode_table.json (70_reset_and_hazards.md R620, log entry 9). -/

namespace Sys2Proof.Machine

/-- ADD HL,rr (R302): Z is unchanged. -/
def addHl (p : Pair) (s : State) : Result :=
  let r := addHlOut s.cfg (s.pair .hl) (s.pair p)
  done 8 ((s.setPair .hl r.res).setFlags s.flagZ false r.h r.c)

/-- INC BC (R300). -/
def exec_inc_bc (s : State) : Result := done 8 (s.setPair .bc (s.pair .bc + 1))

/-- ADD HL,BC (R302). -/
def exec_add_hl_bc (s : State) : Result := addHl .bc s

/-- DEC BC (R301). -/
def exec_dec_bc (s : State) : Result := done 8 (s.setPair .bc (s.pair .bc - 1))

/-- INC DE (R300). -/
def exec_inc_de (s : State) : Result := done 8 (s.setPair .de (s.pair .de + 1))

/-- ADD HL,DE (R302). -/
def exec_add_hl_de (s : State) : Result := addHl .de s

/-- DEC DE (R301). -/
def exec_dec_de (s : State) : Result := done 8 (s.setPair .de (s.pair .de - 1))

/-- INC HL (R300). -/
def exec_inc_hl (s : State) : Result := done 8 (s.setPair .hl (s.pair .hl + 1))

/-- ADD HL,HL (R302). -/
def exec_add_hl_hl (s : State) : Result := addHl .hl s

/-- DEC HL (R301). -/
def exec_dec_hl (s : State) : Result := done 8 (s.setPair .hl (s.pair .hl - 1))

/-- INC SP (R300). -/
def exec_inc_sp (s : State) : Result := done 8 (s.setPair .sp (s.pair .sp + 1))

/-- ADD HL,SP (R302). -/
def exec_add_hl_sp (s : State) : Result := addHl .sp s

/-- DEC SP (R301). -/
def exec_dec_sp (s : State) : Result := done 8 (s.setPair .sp (s.pair .sp - 1))

/-- ADD SP,r8 (R303). -/
def exec_add_sp_r8 (n : Byte) (s : State) : Result := spPlus .sp n 16 s

end Sys2Proof.Machine
end

