-- ==== Sys2Proof/Machine/Alu8.lean ====
section
/-! DEFINITION. 8-bit arithmetic and logic (42_alu8.md R264 to R279). Cycle
counts are the cycles column of spec/opcode_table.json (70_reset_and_hazards.md R620, log entry 9). -/

namespace Sys2Proof.Machine

/-- An ALU operation on A (R264 to R271). -/
def alu (op : AluOp) (src : AluSrc) (s : State) : Result :=
  let r := aluOut s.cfg op s.a (s.aluSrc src) s.flagC
  done src.cycles ((s.setReg .a r.res).setFlags r.z r.n r.h r.c)

/-- INC r and INC (HL) (R272, R273). -/
def incR (o : Operand8) (s : State) : Result :=
  let r := incOut (s.readR o) s.flagC
  done (operandCycles o 4 12) ((s.writeR o r.res).setFlags r.z r.n r.h r.c)

/-- DEC r and DEC (HL) (R274, R275). -/
def decR (o : Operand8) (s : State) : Result :=
  let r := decOut (s.readR o) s.flagC
  done (operandCycles o 4 12) ((s.writeR o r.res).setFlags r.z r.n r.h r.c)

/-- DAA (R276), as it runs when it is admitted. -/
def daa (s : State) : Result :=
  let r := daaOut s.a s.flagN s.flagH s.flagC
  done 4 ((s.setReg .a r.res).setFlags r.z r.n r.h r.c)

/-- INC B (R272). -/
def exec_inc_b (s : State) : Result := incR (.reg .b) s

/-- DEC B (R274). -/
def exec_dec_b (s : State) : Result := decR (.reg .b) s

/-- INC C (R272). -/
def exec_inc_c (s : State) : Result := incR (.reg .c) s

/-- DEC C (R274). -/
def exec_dec_c (s : State) : Result := decR (.reg .c) s

/-- INC D (R272). -/
def exec_inc_d (s : State) : Result := incR (.reg .d) s

/-- DEC D (R274). -/
def exec_dec_d (s : State) : Result := decR (.reg .d) s

/-- INC E (R272). -/
def exec_inc_e (s : State) : Result := incR (.reg .e) s

/-- DEC E (R274). -/
def exec_dec_e (s : State) : Result := decR (.reg .e) s

/-- INC H (R272). -/
def exec_inc_h (s : State) : Result := incR (.reg .h) s

/-- DEC H (R274). -/
def exec_dec_h (s : State) : Result := decR (.reg .h) s

/-- DAA (R276). -/
def exec_daa (s : State) : Result := daa s

/-- INC L (R272). -/
def exec_inc_l (s : State) : Result := incR (.reg .l) s

/-- DEC L (R274). -/
def exec_dec_l (s : State) : Result := decR (.reg .l) s

/-- CPL (R277). -/
def exec_cpl (s : State) : Result := done 4 ((s.setReg .a (~~~s.a)).setFlags s.flagZ true true s.flagC)

/-- INC (HL) (R273). -/
def exec_inc_at_hl (s : State) : Result := incR .atHl s

/-- DEC (HL) (R275). -/
def exec_dec_at_hl (s : State) : Result := decR .atHl s

/-- SCF (R278). -/
def exec_scf (s : State) : Result := done 4 (s.setFlags s.flagZ false false true)

/-- INC A (R272). -/
def exec_inc_a (s : State) : Result := incR (.reg .a) s

/-- DEC A (R274). -/
def exec_dec_a (s : State) : Result := decR (.reg .a) s

/-- CCF (R279). -/
def exec_ccf (s : State) : Result := done 4 (s.setFlags s.flagZ false false (!s.flagC))

/-- ADD A,B (R264). -/
def exec_add_a_b (s : State) : Result := alu .add (.operand (.reg .b)) s

/-- ADD A,C (R264). -/
def exec_add_a_c (s : State) : Result := alu .add (.operand (.reg .c)) s

/-- ADD A,D (R264). -/
def exec_add_a_d (s : State) : Result := alu .add (.operand (.reg .d)) s

/-- ADD A,E (R264). -/
def exec_add_a_e (s : State) : Result := alu .add (.operand (.reg .e)) s

/-- ADD A,H (R264). -/
def exec_add_a_h (s : State) : Result := alu .add (.operand (.reg .h)) s

/-- ADD A,L (R264). -/
def exec_add_a_l (s : State) : Result := alu .add (.operand (.reg .l)) s

/-- ADD A,(HL) (R264). -/
def exec_add_a_at_hl (s : State) : Result := alu .add (.operand .atHl) s

/-- ADD A,A (R264). -/
def exec_add_a_a (s : State) : Result := alu .add (.operand (.reg .a)) s

/-- ADC A,B (R265). -/
def exec_adc_a_b (s : State) : Result := alu .adc (.operand (.reg .b)) s

/-- ADC A,C (R265). -/
def exec_adc_a_c (s : State) : Result := alu .adc (.operand (.reg .c)) s

/-- ADC A,D (R265). -/
def exec_adc_a_d (s : State) : Result := alu .adc (.operand (.reg .d)) s

/-- ADC A,E (R265). -/
def exec_adc_a_e (s : State) : Result := alu .adc (.operand (.reg .e)) s

/-- ADC A,H (R265). -/
def exec_adc_a_h (s : State) : Result := alu .adc (.operand (.reg .h)) s

/-- ADC A,L (R265). -/
def exec_adc_a_l (s : State) : Result := alu .adc (.operand (.reg .l)) s

/-- ADC A,(HL) (R265). -/
def exec_adc_a_at_hl (s : State) : Result := alu .adc (.operand .atHl) s

/-- ADC A,A (R265). -/
def exec_adc_a_a (s : State) : Result := alu .adc (.operand (.reg .a)) s

/-- SUB A,B (R266). -/
def exec_sub_a_b (s : State) : Result := alu .sub (.operand (.reg .b)) s

/-- SUB A,C (R266). -/
def exec_sub_a_c (s : State) : Result := alu .sub (.operand (.reg .c)) s

/-- SUB A,D (R266). -/
def exec_sub_a_d (s : State) : Result := alu .sub (.operand (.reg .d)) s

/-- SUB A,E (R266). -/
def exec_sub_a_e (s : State) : Result := alu .sub (.operand (.reg .e)) s

/-- SUB A,H (R266). -/
def exec_sub_a_h (s : State) : Result := alu .sub (.operand (.reg .h)) s

/-- SUB A,L (R266). -/
def exec_sub_a_l (s : State) : Result := alu .sub (.operand (.reg .l)) s

/-- SUB A,(HL) (R266). -/
def exec_sub_a_at_hl (s : State) : Result := alu .sub (.operand .atHl) s

/-- SUB A,A (R266). -/
def exec_sub_a_a (s : State) : Result := alu .sub (.operand (.reg .a)) s

/-- SBC A,B (R267). -/
def exec_sbc_a_b (s : State) : Result := alu .sbc (.operand (.reg .b)) s

/-- SBC A,C (R267). -/
def exec_sbc_a_c (s : State) : Result := alu .sbc (.operand (.reg .c)) s

/-- SBC A,D (R267). -/
def exec_sbc_a_d (s : State) : Result := alu .sbc (.operand (.reg .d)) s

/-- SBC A,E (R267). -/
def exec_sbc_a_e (s : State) : Result := alu .sbc (.operand (.reg .e)) s

/-- SBC A,H (R267). -/
def exec_sbc_a_h (s : State) : Result := alu .sbc (.operand (.reg .h)) s

/-- SBC A,L (R267). -/
def exec_sbc_a_l (s : State) : Result := alu .sbc (.operand (.reg .l)) s

/-- SBC A,(HL) (R267). -/
def exec_sbc_a_at_hl (s : State) : Result := alu .sbc (.operand .atHl) s

/-- SBC A,A (R267). -/
def exec_sbc_a_a (s : State) : Result := alu .sbc (.operand (.reg .a)) s

/-- AND A,B (R268). -/
def exec_and_a_b (s : State) : Result := alu .and (.operand (.reg .b)) s

/-- AND A,C (R268). -/
def exec_and_a_c (s : State) : Result := alu .and (.operand (.reg .c)) s

/-- AND A,D (R268). -/
def exec_and_a_d (s : State) : Result := alu .and (.operand (.reg .d)) s

/-- AND A,E (R268). -/
def exec_and_a_e (s : State) : Result := alu .and (.operand (.reg .e)) s

/-- AND A,H (R268). -/
def exec_and_a_h (s : State) : Result := alu .and (.operand (.reg .h)) s

/-- AND A,L (R268). -/
def exec_and_a_l (s : State) : Result := alu .and (.operand (.reg .l)) s

/-- AND A,(HL) (R268). -/
def exec_and_a_at_hl (s : State) : Result := alu .and (.operand .atHl) s

/-- AND A,A (R268). -/
def exec_and_a_a (s : State) : Result := alu .and (.operand (.reg .a)) s

/-- XOR A,B (R269). -/
def exec_xor_a_b (s : State) : Result := alu .xor (.operand (.reg .b)) s

/-- XOR A,C (R269). -/
def exec_xor_a_c (s : State) : Result := alu .xor (.operand (.reg .c)) s

/-- XOR A,D (R269). -/
def exec_xor_a_d (s : State) : Result := alu .xor (.operand (.reg .d)) s

/-- XOR A,E (R269). -/
def exec_xor_a_e (s : State) : Result := alu .xor (.operand (.reg .e)) s

/-- XOR A,H (R269). -/
def exec_xor_a_h (s : State) : Result := alu .xor (.operand (.reg .h)) s

/-- XOR A,L (R269). -/
def exec_xor_a_l (s : State) : Result := alu .xor (.operand (.reg .l)) s

/-- XOR A,(HL) (R269). -/
def exec_xor_a_at_hl (s : State) : Result := alu .xor (.operand .atHl) s

/-- XOR A,A (R269). -/
def exec_xor_a_a (s : State) : Result := alu .xor (.operand (.reg .a)) s

/-- OR A,B (R270). -/
def exec_or_a_b (s : State) : Result := alu .or (.operand (.reg .b)) s

/-- OR A,C (R270). -/
def exec_or_a_c (s : State) : Result := alu .or (.operand (.reg .c)) s

/-- OR A,D (R270). -/
def exec_or_a_d (s : State) : Result := alu .or (.operand (.reg .d)) s

/-- OR A,E (R270). -/
def exec_or_a_e (s : State) : Result := alu .or (.operand (.reg .e)) s

/-- OR A,H (R270). -/
def exec_or_a_h (s : State) : Result := alu .or (.operand (.reg .h)) s

/-- OR A,L (R270). -/
def exec_or_a_l (s : State) : Result := alu .or (.operand (.reg .l)) s

/-- OR A,(HL) (R270). -/
def exec_or_a_at_hl (s : State) : Result := alu .or (.operand .atHl) s

/-- OR A,A (R270). -/
def exec_or_a_a (s : State) : Result := alu .or (.operand (.reg .a)) s

/-- CP A,B (R271). -/
def exec_cp_a_b (s : State) : Result := alu .cp (.operand (.reg .b)) s

/-- CP A,C (R271). -/
def exec_cp_a_c (s : State) : Result := alu .cp (.operand (.reg .c)) s

/-- CP A,D (R271). -/
def exec_cp_a_d (s : State) : Result := alu .cp (.operand (.reg .d)) s

/-- CP A,E (R271). -/
def exec_cp_a_e (s : State) : Result := alu .cp (.operand (.reg .e)) s

/-- CP A,H (R271). -/
def exec_cp_a_h (s : State) : Result := alu .cp (.operand (.reg .h)) s

/-- CP A,L (R271). -/
def exec_cp_a_l (s : State) : Result := alu .cp (.operand (.reg .l)) s

/-- CP A,(HL) (R271). -/
def exec_cp_a_at_hl (s : State) : Result := alu .cp (.operand .atHl) s

/-- CP A,A (R271). -/
def exec_cp_a_a (s : State) : Result := alu .cp (.operand (.reg .a)) s

/-- ADD A,d8 (R264). -/
def exec_add_a_d8 (n : Byte) (s : State) : Result := alu .add (.imm n) s

/-- ADC A,d8 (R265). -/
def exec_adc_a_d8 (n : Byte) (s : State) : Result := alu .adc (.imm n) s

/-- SUB A,d8 (R266). -/
def exec_sub_a_d8 (n : Byte) (s : State) : Result := alu .sub (.imm n) s

/-- SBC A,d8 (R267). -/
def exec_sbc_a_d8 (n : Byte) (s : State) : Result := alu .sbc (.imm n) s

/-- AND A,d8 (R268). -/
def exec_and_a_d8 (n : Byte) (s : State) : Result := alu .and (.imm n) s

/-- XOR A,d8 (R269). -/
def exec_xor_a_d8 (n : Byte) (s : State) : Result := alu .xor (.imm n) s

/-- OR A,d8 (R270). -/
def exec_or_a_d8 (n : Byte) (s : State) : Result := alu .or (.imm n) s

/-- CP A,d8 (R271). -/
def exec_cp_a_d8 (n : Byte) (s : State) : Result := alu .cp (.imm n) s

end Sys2Proof.Machine
end

