-- ==== Sys2Proof/Machine/Bit.lean ====
section
/-! DEFINITION. Bit test, reset and set (45_bit.md R350 to R355). Cycle
counts are the cycles column of spec/opcode_table.json (70_reset_and_hazards.md R620, log entry 9). -/

namespace Sys2Proof.Machine

/-- BIT b,r and BIT b,(HL) (R350, R351): `flags <- (1 - v[b], 0, 1, -)`. -/
def bitTest (b : Fin 8) (o : Operand8) (s : State) : Result :=
  done (operandCycles o 8 12) (s.setFlags (!(s.readR o).getLsbD b.val) false true s.flagC)

/-- RES b,r and RES b,(HL) (R352, R353). -/
def bitReset (b : Fin 8) (o : Operand8) (s : State) : Result :=
  done (operandCycles o 8 16) (s.writeR o (clearBit b (s.readR o)))

/-- SET b,r and SET b,(HL) (R354, R355). -/
def bitSet (b : Fin 8) (o : Operand8) (s : State) : Result :=
  done (operandCycles o 8 16) (s.writeR o (setBit b (s.readR o)))

/-- BIT 0,B (R350). -/
def exec_bit_0_b (s : State) : Result := bitTest 0 (.reg .b) s

/-- BIT 0,C (R350). -/
def exec_bit_0_c (s : State) : Result := bitTest 0 (.reg .c) s

/-- BIT 0,D (R350). -/
def exec_bit_0_d (s : State) : Result := bitTest 0 (.reg .d) s

/-- BIT 0,E (R350). -/
def exec_bit_0_e (s : State) : Result := bitTest 0 (.reg .e) s

/-- BIT 0,H (R350). -/
def exec_bit_0_h (s : State) : Result := bitTest 0 (.reg .h) s

/-- BIT 0,L (R350). -/
def exec_bit_0_l (s : State) : Result := bitTest 0 (.reg .l) s

/-- BIT 0,(HL) (R351). -/
def exec_bit_0_at_hl (s : State) : Result := bitTest 0 .atHl s

/-- BIT 0,A (R350). -/
def exec_bit_0_a (s : State) : Result := bitTest 0 (.reg .a) s

/-- BIT 1,B (R350). -/
def exec_bit_1_b (s : State) : Result := bitTest 1 (.reg .b) s

/-- BIT 1,C (R350). -/
def exec_bit_1_c (s : State) : Result := bitTest 1 (.reg .c) s

/-- BIT 1,D (R350). -/
def exec_bit_1_d (s : State) : Result := bitTest 1 (.reg .d) s

/-- BIT 1,E (R350). -/
def exec_bit_1_e (s : State) : Result := bitTest 1 (.reg .e) s

/-- BIT 1,H (R350). -/
def exec_bit_1_h (s : State) : Result := bitTest 1 (.reg .h) s

/-- BIT 1,L (R350). -/
def exec_bit_1_l (s : State) : Result := bitTest 1 (.reg .l) s

/-- BIT 1,(HL) (R351). -/
def exec_bit_1_at_hl (s : State) : Result := bitTest 1 .atHl s

/-- BIT 1,A (R350). -/
def exec_bit_1_a (s : State) : Result := bitTest 1 (.reg .a) s

/-- BIT 2,B (R350). -/
def exec_bit_2_b (s : State) : Result := bitTest 2 (.reg .b) s

/-- BIT 2,C (R350). -/
def exec_bit_2_c (s : State) : Result := bitTest 2 (.reg .c) s

/-- BIT 2,D (R350). -/
def exec_bit_2_d (s : State) : Result := bitTest 2 (.reg .d) s

/-- BIT 2,E (R350). -/
def exec_bit_2_e (s : State) : Result := bitTest 2 (.reg .e) s

/-- BIT 2,H (R350). -/
def exec_bit_2_h (s : State) : Result := bitTest 2 (.reg .h) s

/-- BIT 2,L (R350). -/
def exec_bit_2_l (s : State) : Result := bitTest 2 (.reg .l) s

/-- BIT 2,(HL) (R351). -/
def exec_bit_2_at_hl (s : State) : Result := bitTest 2 .atHl s

/-- BIT 2,A (R350). -/
def exec_bit_2_a (s : State) : Result := bitTest 2 (.reg .a) s

/-- BIT 3,B (R350). -/
def exec_bit_3_b (s : State) : Result := bitTest 3 (.reg .b) s

/-- BIT 3,C (R350). -/
def exec_bit_3_c (s : State) : Result := bitTest 3 (.reg .c) s

/-- BIT 3,D (R350). -/
def exec_bit_3_d (s : State) : Result := bitTest 3 (.reg .d) s

/-- BIT 3,E (R350). -/
def exec_bit_3_e (s : State) : Result := bitTest 3 (.reg .e) s

/-- BIT 3,H (R350). -/
def exec_bit_3_h (s : State) : Result := bitTest 3 (.reg .h) s

/-- BIT 3,L (R350). -/
def exec_bit_3_l (s : State) : Result := bitTest 3 (.reg .l) s

/-- BIT 3,(HL) (R351). -/
def exec_bit_3_at_hl (s : State) : Result := bitTest 3 .atHl s

/-- BIT 3,A (R350). -/
def exec_bit_3_a (s : State) : Result := bitTest 3 (.reg .a) s

/-- BIT 4,B (R350). -/
def exec_bit_4_b (s : State) : Result := bitTest 4 (.reg .b) s

/-- BIT 4,C (R350). -/
def exec_bit_4_c (s : State) : Result := bitTest 4 (.reg .c) s

/-- BIT 4,D (R350). -/
def exec_bit_4_d (s : State) : Result := bitTest 4 (.reg .d) s

/-- BIT 4,E (R350). -/
def exec_bit_4_e (s : State) : Result := bitTest 4 (.reg .e) s

/-- BIT 4,H (R350). -/
def exec_bit_4_h (s : State) : Result := bitTest 4 (.reg .h) s

/-- BIT 4,L (R350). -/
def exec_bit_4_l (s : State) : Result := bitTest 4 (.reg .l) s

/-- BIT 4,(HL) (R351). -/
def exec_bit_4_at_hl (s : State) : Result := bitTest 4 .atHl s

/-- BIT 4,A (R350). -/
def exec_bit_4_a (s : State) : Result := bitTest 4 (.reg .a) s

/-- BIT 5,B (R350). -/
def exec_bit_5_b (s : State) : Result := bitTest 5 (.reg .b) s

/-- BIT 5,C (R350). -/
def exec_bit_5_c (s : State) : Result := bitTest 5 (.reg .c) s

/-- BIT 5,D (R350). -/
def exec_bit_5_d (s : State) : Result := bitTest 5 (.reg .d) s

/-- BIT 5,E (R350). -/
def exec_bit_5_e (s : State) : Result := bitTest 5 (.reg .e) s

/-- BIT 5,H (R350). -/
def exec_bit_5_h (s : State) : Result := bitTest 5 (.reg .h) s

/-- BIT 5,L (R350). -/
def exec_bit_5_l (s : State) : Result := bitTest 5 (.reg .l) s

/-- BIT 5,(HL) (R351). -/
def exec_bit_5_at_hl (s : State) : Result := bitTest 5 .atHl s

/-- BIT 5,A (R350). -/
def exec_bit_5_a (s : State) : Result := bitTest 5 (.reg .a) s

/-- BIT 6,B (R350). -/
def exec_bit_6_b (s : State) : Result := bitTest 6 (.reg .b) s

/-- BIT 6,C (R350). -/
def exec_bit_6_c (s : State) : Result := bitTest 6 (.reg .c) s

/-- BIT 6,D (R350). -/
def exec_bit_6_d (s : State) : Result := bitTest 6 (.reg .d) s

/-- BIT 6,E (R350). -/
def exec_bit_6_e (s : State) : Result := bitTest 6 (.reg .e) s

/-- BIT 6,H (R350). -/
def exec_bit_6_h (s : State) : Result := bitTest 6 (.reg .h) s

/-- BIT 6,L (R350). -/
def exec_bit_6_l (s : State) : Result := bitTest 6 (.reg .l) s

/-- BIT 6,(HL) (R351). -/
def exec_bit_6_at_hl (s : State) : Result := bitTest 6 .atHl s

/-- BIT 6,A (R350). -/
def exec_bit_6_a (s : State) : Result := bitTest 6 (.reg .a) s

/-- BIT 7,B (R350). -/
def exec_bit_7_b (s : State) : Result := bitTest 7 (.reg .b) s

/-- BIT 7,C (R350). -/
def exec_bit_7_c (s : State) : Result := bitTest 7 (.reg .c) s

/-- BIT 7,D (R350). -/
def exec_bit_7_d (s : State) : Result := bitTest 7 (.reg .d) s

/-- BIT 7,E (R350). -/
def exec_bit_7_e (s : State) : Result := bitTest 7 (.reg .e) s

/-- BIT 7,H (R350). -/
def exec_bit_7_h (s : State) : Result := bitTest 7 (.reg .h) s

/-- BIT 7,L (R350). -/
def exec_bit_7_l (s : State) : Result := bitTest 7 (.reg .l) s

/-- BIT 7,(HL) (R351). -/
def exec_bit_7_at_hl (s : State) : Result := bitTest 7 .atHl s

/-- BIT 7,A (R350). -/
def exec_bit_7_a (s : State) : Result := bitTest 7 (.reg .a) s

/-- RES 0,B (R352). -/
def exec_res_0_b (s : State) : Result := bitReset 0 (.reg .b) s

/-- RES 0,C (R352). -/
def exec_res_0_c (s : State) : Result := bitReset 0 (.reg .c) s

/-- RES 0,D (R352). -/
def exec_res_0_d (s : State) : Result := bitReset 0 (.reg .d) s

/-- RES 0,E (R352). -/
def exec_res_0_e (s : State) : Result := bitReset 0 (.reg .e) s

/-- RES 0,H (R352). -/
def exec_res_0_h (s : State) : Result := bitReset 0 (.reg .h) s

/-- RES 0,L (R352). -/
def exec_res_0_l (s : State) : Result := bitReset 0 (.reg .l) s

/-- RES 0,(HL) (R353). -/
def exec_res_0_at_hl (s : State) : Result := bitReset 0 .atHl s

/-- RES 0,A (R352). -/
def exec_res_0_a (s : State) : Result := bitReset 0 (.reg .a) s

/-- RES 1,B (R352). -/
def exec_res_1_b (s : State) : Result := bitReset 1 (.reg .b) s

/-- RES 1,C (R352). -/
def exec_res_1_c (s : State) : Result := bitReset 1 (.reg .c) s

/-- RES 1,D (R352). -/
def exec_res_1_d (s : State) : Result := bitReset 1 (.reg .d) s

/-- RES 1,E (R352). -/
def exec_res_1_e (s : State) : Result := bitReset 1 (.reg .e) s

/-- RES 1,H (R352). -/
def exec_res_1_h (s : State) : Result := bitReset 1 (.reg .h) s

/-- RES 1,L (R352). -/
def exec_res_1_l (s : State) : Result := bitReset 1 (.reg .l) s

/-- RES 1,(HL) (R353). -/
def exec_res_1_at_hl (s : State) : Result := bitReset 1 .atHl s

/-- RES 1,A (R352). -/
def exec_res_1_a (s : State) : Result := bitReset 1 (.reg .a) s

/-- RES 2,B (R352). -/
def exec_res_2_b (s : State) : Result := bitReset 2 (.reg .b) s

/-- RES 2,C (R352). -/
def exec_res_2_c (s : State) : Result := bitReset 2 (.reg .c) s

/-- RES 2,D (R352). -/
def exec_res_2_d (s : State) : Result := bitReset 2 (.reg .d) s

/-- RES 2,E (R352). -/
def exec_res_2_e (s : State) : Result := bitReset 2 (.reg .e) s

/-- RES 2,H (R352). -/
def exec_res_2_h (s : State) : Result := bitReset 2 (.reg .h) s

/-- RES 2,L (R352). -/
def exec_res_2_l (s : State) : Result := bitReset 2 (.reg .l) s

/-- RES 2,(HL) (R353). -/
def exec_res_2_at_hl (s : State) : Result := bitReset 2 .atHl s

/-- RES 2,A (R352). -/
def exec_res_2_a (s : State) : Result := bitReset 2 (.reg .a) s

/-- RES 3,B (R352). -/
def exec_res_3_b (s : State) : Result := bitReset 3 (.reg .b) s

/-- RES 3,C (R352). -/
def exec_res_3_c (s : State) : Result := bitReset 3 (.reg .c) s

/-- RES 3,D (R352). -/
def exec_res_3_d (s : State) : Result := bitReset 3 (.reg .d) s

/-- RES 3,E (R352). -/
def exec_res_3_e (s : State) : Result := bitReset 3 (.reg .e) s

/-- RES 3,H (R352). -/
def exec_res_3_h (s : State) : Result := bitReset 3 (.reg .h) s

/-- RES 3,L (R352). -/
def exec_res_3_l (s : State) : Result := bitReset 3 (.reg .l) s

/-- RES 3,(HL) (R353). -/
def exec_res_3_at_hl (s : State) : Result := bitReset 3 .atHl s

/-- RES 3,A (R352). -/
def exec_res_3_a (s : State) : Result := bitReset 3 (.reg .a) s

/-- RES 4,B (R352). -/
def exec_res_4_b (s : State) : Result := bitReset 4 (.reg .b) s

/-- RES 4,C (R352). -/
def exec_res_4_c (s : State) : Result := bitReset 4 (.reg .c) s

/-- RES 4,D (R352). -/
def exec_res_4_d (s : State) : Result := bitReset 4 (.reg .d) s

/-- RES 4,E (R352). -/
def exec_res_4_e (s : State) : Result := bitReset 4 (.reg .e) s

/-- RES 4,H (R352). -/
def exec_res_4_h (s : State) : Result := bitReset 4 (.reg .h) s

/-- RES 4,L (R352). -/
def exec_res_4_l (s : State) : Result := bitReset 4 (.reg .l) s

/-- RES 4,(HL) (R353). -/
def exec_res_4_at_hl (s : State) : Result := bitReset 4 .atHl s

/-- RES 4,A (R352). -/
def exec_res_4_a (s : State) : Result := bitReset 4 (.reg .a) s

/-- RES 5,B (R352). -/
def exec_res_5_b (s : State) : Result := bitReset 5 (.reg .b) s

/-- RES 5,C (R352). -/
def exec_res_5_c (s : State) : Result := bitReset 5 (.reg .c) s

/-- RES 5,D (R352). -/
def exec_res_5_d (s : State) : Result := bitReset 5 (.reg .d) s

/-- RES 5,E (R352). -/
def exec_res_5_e (s : State) : Result := bitReset 5 (.reg .e) s

/-- RES 5,H (R352). -/
def exec_res_5_h (s : State) : Result := bitReset 5 (.reg .h) s

/-- RES 5,L (R352). -/
def exec_res_5_l (s : State) : Result := bitReset 5 (.reg .l) s

/-- RES 5,(HL) (R353). -/
def exec_res_5_at_hl (s : State) : Result := bitReset 5 .atHl s

/-- RES 5,A (R352). -/
def exec_res_5_a (s : State) : Result := bitReset 5 (.reg .a) s

/-- RES 6,B (R352). -/
def exec_res_6_b (s : State) : Result := bitReset 6 (.reg .b) s

/-- RES 6,C (R352). -/
def exec_res_6_c (s : State) : Result := bitReset 6 (.reg .c) s

/-- RES 6,D (R352). -/
def exec_res_6_d (s : State) : Result := bitReset 6 (.reg .d) s

/-- RES 6,E (R352). -/
def exec_res_6_e (s : State) : Result := bitReset 6 (.reg .e) s

/-- RES 6,H (R352). -/
def exec_res_6_h (s : State) : Result := bitReset 6 (.reg .h) s

/-- RES 6,L (R352). -/
def exec_res_6_l (s : State) : Result := bitReset 6 (.reg .l) s

/-- RES 6,(HL) (R353). -/
def exec_res_6_at_hl (s : State) : Result := bitReset 6 .atHl s

/-- RES 6,A (R352). -/
def exec_res_6_a (s : State) : Result := bitReset 6 (.reg .a) s

/-- RES 7,B (R352). -/
def exec_res_7_b (s : State) : Result := bitReset 7 (.reg .b) s

/-- RES 7,C (R352). -/
def exec_res_7_c (s : State) : Result := bitReset 7 (.reg .c) s

/-- RES 7,D (R352). -/
def exec_res_7_d (s : State) : Result := bitReset 7 (.reg .d) s

/-- RES 7,E (R352). -/
def exec_res_7_e (s : State) : Result := bitReset 7 (.reg .e) s

/-- RES 7,H (R352). -/
def exec_res_7_h (s : State) : Result := bitReset 7 (.reg .h) s

/-- RES 7,L (R352). -/
def exec_res_7_l (s : State) : Result := bitReset 7 (.reg .l) s

/-- RES 7,(HL) (R353). -/
def exec_res_7_at_hl (s : State) : Result := bitReset 7 .atHl s

/-- RES 7,A (R352). -/
def exec_res_7_a (s : State) : Result := bitReset 7 (.reg .a) s

/-- SET 0,B (R354). -/
def exec_set_0_b (s : State) : Result := bitSet 0 (.reg .b) s

/-- SET 0,C (R354). -/
def exec_set_0_c (s : State) : Result := bitSet 0 (.reg .c) s

/-- SET 0,D (R354). -/
def exec_set_0_d (s : State) : Result := bitSet 0 (.reg .d) s

/-- SET 0,E (R354). -/
def exec_set_0_e (s : State) : Result := bitSet 0 (.reg .e) s

/-- SET 0,H (R354). -/
def exec_set_0_h (s : State) : Result := bitSet 0 (.reg .h) s

/-- SET 0,L (R354). -/
def exec_set_0_l (s : State) : Result := bitSet 0 (.reg .l) s

/-- SET 0,(HL) (R355). -/
def exec_set_0_at_hl (s : State) : Result := bitSet 0 .atHl s

/-- SET 0,A (R354). -/
def exec_set_0_a (s : State) : Result := bitSet 0 (.reg .a) s

/-- SET 1,B (R354). -/
def exec_set_1_b (s : State) : Result := bitSet 1 (.reg .b) s

/-- SET 1,C (R354). -/
def exec_set_1_c (s : State) : Result := bitSet 1 (.reg .c) s

/-- SET 1,D (R354). -/
def exec_set_1_d (s : State) : Result := bitSet 1 (.reg .d) s

/-- SET 1,E (R354). -/
def exec_set_1_e (s : State) : Result := bitSet 1 (.reg .e) s

/-- SET 1,H (R354). -/
def exec_set_1_h (s : State) : Result := bitSet 1 (.reg .h) s

/-- SET 1,L (R354). -/
def exec_set_1_l (s : State) : Result := bitSet 1 (.reg .l) s

/-- SET 1,(HL) (R355). -/
def exec_set_1_at_hl (s : State) : Result := bitSet 1 .atHl s

/-- SET 1,A (R354). -/
def exec_set_1_a (s : State) : Result := bitSet 1 (.reg .a) s

/-- SET 2,B (R354). -/
def exec_set_2_b (s : State) : Result := bitSet 2 (.reg .b) s

/-- SET 2,C (R354). -/
def exec_set_2_c (s : State) : Result := bitSet 2 (.reg .c) s

/-- SET 2,D (R354). -/
def exec_set_2_d (s : State) : Result := bitSet 2 (.reg .d) s

/-- SET 2,E (R354). -/
def exec_set_2_e (s : State) : Result := bitSet 2 (.reg .e) s

/-- SET 2,H (R354). -/
def exec_set_2_h (s : State) : Result := bitSet 2 (.reg .h) s

/-- SET 2,L (R354). -/
def exec_set_2_l (s : State) : Result := bitSet 2 (.reg .l) s

/-- SET 2,(HL) (R355). -/
def exec_set_2_at_hl (s : State) : Result := bitSet 2 .atHl s

/-- SET 2,A (R354). -/
def exec_set_2_a (s : State) : Result := bitSet 2 (.reg .a) s

/-- SET 3,B (R354). -/
def exec_set_3_b (s : State) : Result := bitSet 3 (.reg .b) s

/-- SET 3,C (R354). -/
def exec_set_3_c (s : State) : Result := bitSet 3 (.reg .c) s

/-- SET 3,D (R354). -/
def exec_set_3_d (s : State) : Result := bitSet 3 (.reg .d) s

/-- SET 3,E (R354). -/
def exec_set_3_e (s : State) : Result := bitSet 3 (.reg .e) s

/-- SET 3,H (R354). -/
def exec_set_3_h (s : State) : Result := bitSet 3 (.reg .h) s

/-- SET 3,L (R354). -/
def exec_set_3_l (s : State) : Result := bitSet 3 (.reg .l) s

/-- SET 3,(HL) (R355). -/
def exec_set_3_at_hl (s : State) : Result := bitSet 3 .atHl s

/-- SET 3,A (R354). -/
def exec_set_3_a (s : State) : Result := bitSet 3 (.reg .a) s

/-- SET 4,B (R354). -/
def exec_set_4_b (s : State) : Result := bitSet 4 (.reg .b) s

/-- SET 4,C (R354). -/
def exec_set_4_c (s : State) : Result := bitSet 4 (.reg .c) s

/-- SET 4,D (R354). -/
def exec_set_4_d (s : State) : Result := bitSet 4 (.reg .d) s

/-- SET 4,E (R354). -/
def exec_set_4_e (s : State) : Result := bitSet 4 (.reg .e) s

/-- SET 4,H (R354). -/
def exec_set_4_h (s : State) : Result := bitSet 4 (.reg .h) s

/-- SET 4,L (R354). -/
def exec_set_4_l (s : State) : Result := bitSet 4 (.reg .l) s

/-- SET 4,(HL) (R355). -/
def exec_set_4_at_hl (s : State) : Result := bitSet 4 .atHl s

/-- SET 4,A (R354). -/
def exec_set_4_a (s : State) : Result := bitSet 4 (.reg .a) s

/-- SET 5,B (R354). -/
def exec_set_5_b (s : State) : Result := bitSet 5 (.reg .b) s

/-- SET 5,C (R354). -/
def exec_set_5_c (s : State) : Result := bitSet 5 (.reg .c) s

/-- SET 5,D (R354). -/
def exec_set_5_d (s : State) : Result := bitSet 5 (.reg .d) s

/-- SET 5,E (R354). -/
def exec_set_5_e (s : State) : Result := bitSet 5 (.reg .e) s

/-- SET 5,H (R354). -/
def exec_set_5_h (s : State) : Result := bitSet 5 (.reg .h) s

/-- SET 5,L (R354). -/
def exec_set_5_l (s : State) : Result := bitSet 5 (.reg .l) s

/-- SET 5,(HL) (R355). -/
def exec_set_5_at_hl (s : State) : Result := bitSet 5 .atHl s

/-- SET 5,A (R354). -/
def exec_set_5_a (s : State) : Result := bitSet 5 (.reg .a) s

/-- SET 6,B (R354). -/
def exec_set_6_b (s : State) : Result := bitSet 6 (.reg .b) s

/-- SET 6,C (R354). -/
def exec_set_6_c (s : State) : Result := bitSet 6 (.reg .c) s

/-- SET 6,D (R354). -/
def exec_set_6_d (s : State) : Result := bitSet 6 (.reg .d) s

/-- SET 6,E (R354). -/
def exec_set_6_e (s : State) : Result := bitSet 6 (.reg .e) s

/-- SET 6,H (R354). -/
def exec_set_6_h (s : State) : Result := bitSet 6 (.reg .h) s

/-- SET 6,L (R354). -/
def exec_set_6_l (s : State) : Result := bitSet 6 (.reg .l) s

/-- SET 6,(HL) (R355). -/
def exec_set_6_at_hl (s : State) : Result := bitSet 6 .atHl s

/-- SET 6,A (R354). -/
def exec_set_6_a (s : State) : Result := bitSet 6 (.reg .a) s

/-- SET 7,B (R354). -/
def exec_set_7_b (s : State) : Result := bitSet 7 (.reg .b) s

/-- SET 7,C (R354). -/
def exec_set_7_c (s : State) : Result := bitSet 7 (.reg .c) s

/-- SET 7,D (R354). -/
def exec_set_7_d (s : State) : Result := bitSet 7 (.reg .d) s

/-- SET 7,E (R354). -/
def exec_set_7_e (s : State) : Result := bitSet 7 (.reg .e) s

/-- SET 7,H (R354). -/
def exec_set_7_h (s : State) : Result := bitSet 7 (.reg .h) s

/-- SET 7,L (R354). -/
def exec_set_7_l (s : State) : Result := bitSet 7 (.reg .l) s

/-- SET 7,(HL) (R355). -/
def exec_set_7_at_hl (s : State) : Result := bitSet 7 .atHl s

/-- SET 7,A (R354). -/
def exec_set_7_a (s : State) : Result := bitSet 7 (.reg .a) s

end Sys2Proof.Machine
end

