-- ==== Sys2Proof/Machine/Control.lean ====
section
/-! DEFINITION. Jumps, calls, returns and RST (46_control.md R371 to R381). A meaning starts with PC past the instruction. Cycle
counts are the cycles column of spec/opcode_table.json (70_reset_and_hazards.md R620, log entry 9). -/

namespace Sys2Proof.Machine

/-- A jump (R371, R373, R374). -/
def jump (t : Word) (n : Nat) (s : State) : Result := done n { s with pc := t }

/-- A conditional jump (R372, R375): PC stays past the instruction when it is not taken. -/
def jumpIf (taken : Bool) (t : Word) (nTaken nNot : Nat) (s : State) : Result :=
  if taken then jump t nTaken s else done nNot s

/-- A call (R376, R377, R381): push the address after the instruction, then jump. -/
def call (t : Word) (n : Nat) (s : State) : Result := done n { s.push16 s.pc with pc := t }

/-- A return (R378, R379). -/
def returnTo (n : Nat) (s : State) : Result := done n { s.popSp with pc := s.popValue }

/-- JR r8 (R374). -/
def exec_jr_r8 (n : Byte) (s : State) : Result := jump (s.relTarget n) 12 s

/-- JR NZ,r8 (R375). -/
def exec_jr_nz_r8 (n : Byte) (s : State) : Result := jumpIf (s.cond .nz) (s.relTarget n) 12 8 s

/-- JR Z,r8 (R375). -/
def exec_jr_z_r8 (n : Byte) (s : State) : Result := jumpIf (s.cond .z) (s.relTarget n) 12 8 s

/-- JR NC,r8 (R375). -/
def exec_jr_nc_r8 (n : Byte) (s : State) : Result := jumpIf (s.cond .nc) (s.relTarget n) 12 8 s

/-- JR C,r8 (R375). -/
def exec_jr_c_r8 (n : Byte) (s : State) : Result := jumpIf (s.cond .c) (s.relTarget n) 12 8 s

/-- RET NZ (R379). -/
def exec_ret_nz (s : State) : Result := if s.cond .nz then returnTo 20 s else done 8 s

/-- JP NZ,a16 (R372). -/
def exec_jp_nz_a16 (n : Word) (s : State) : Result := jumpIf (s.cond .nz) n 16 12 s

/-- JP a16 (R371). -/
def exec_jp_a16 (n : Word) (s : State) : Result := jump n 16 s

/-- CALL NZ,a16 (R377). -/
def exec_call_nz_a16 (n : Word) (s : State) : Result := if s.cond .nz then call n 24 s else done 12 s

/-- RST 0x00 (R381). -/
def exec_rst_00 (s : State) : Result := call (rstTarget 0) 16 s

/-- RET Z (R379). -/
def exec_ret_z (s : State) : Result := if s.cond .z then returnTo 20 s else done 8 s

/-- RET (R378). -/
def exec_ret (s : State) : Result := returnTo 16 s

/-- JP Z,a16 (R372). -/
def exec_jp_z_a16 (n : Word) (s : State) : Result := jumpIf (s.cond .z) n 16 12 s

/-- CALL Z,a16 (R377). -/
def exec_call_z_a16 (n : Word) (s : State) : Result := if s.cond .z then call n 24 s else done 12 s

/-- CALL a16 (R376). -/
def exec_call_a16 (n : Word) (s : State) : Result := call n 24 s

/-- RST 0x08 (R381). -/
def exec_rst_08 (s : State) : Result := call (rstTarget 1) 16 s

/-- RET NC (R379). -/
def exec_ret_nc (s : State) : Result := if s.cond .nc then returnTo 20 s else done 8 s

/-- JP NC,a16 (R372). -/
def exec_jp_nc_a16 (n : Word) (s : State) : Result := jumpIf (s.cond .nc) n 16 12 s

/-- CALL NC,a16 (R377). -/
def exec_call_nc_a16 (n : Word) (s : State) : Result := if s.cond .nc then call n 24 s else done 12 s

/-- RST 0x10 (R381). -/
def exec_rst_10 (s : State) : Result := call (rstTarget 2) 16 s

/-- RET C (R379). -/
def exec_ret_c (s : State) : Result := if s.cond .c then returnTo 20 s else done 8 s

/-- RETI (R380). -/
def exec_reti (s : State) : Result := done 16 s.returnFromInterrupt

/-- JP C,a16 (R372). -/
def exec_jp_c_a16 (n : Word) (s : State) : Result := jumpIf (s.cond .c) n 16 12 s

/-- CALL C,a16 (R377). -/
def exec_call_c_a16 (n : Word) (s : State) : Result := if s.cond .c then call n 24 s else done 12 s

/-- RST 0x18 (R381). -/
def exec_rst_18 (s : State) : Result := call (rstTarget 3) 16 s

/-- RST 0x20 (R381). -/
def exec_rst_20 (s : State) : Result := call (rstTarget 4) 16 s

/-- JP (HL) (R373). -/
def exec_jp_at_hl (s : State) : Result := jump (s.pair .hl) 4 s

/-- RST 0x28 (R381). -/
def exec_rst_28 (s : State) : Result := call (rstTarget 5) 16 s

/-- RST 0x30 (R381). -/
def exec_rst_30 (s : State) : Result := call (rstTarget 6) 16 s

/-- RST 0x38 (R381). -/
def exec_rst_38 (s : State) : Result := call (rstTarget 7) 16 s

end Sys2Proof.Machine
end

