-- ==== Sys2Proof/Machine/Load8.lean ====
section
/-! DEFINITION. 8-bit loads (40_load8.md R200 to R218). No 8-bit load writes a flag. Cycle
counts are the cycles column of spec/opcode_table.json (70_reset_and_hazards.md R620, log entry 9). -/

namespace Sys2Proof.Machine

/-- LD r,r' (R200). -/
def ldRR (dst r : Reg8) (s : State) : Result := done 4 (s.setReg dst (s.reg r))

/-- LD r,d8 (R201). -/
def ldRImm (dst : Reg8) (n : Byte) (s : State) : Result := done 8 (s.setReg dst n)

/-- LD r,(HL) (R202): the address is HL before the write. -/
def ldRAtHl (dst : Reg8) (s : State) : Result := done 8 (s.setReg dst (s.read (s.pair .hl)))

/-- LD (HL),r (R203). -/
def ldAtHlR (r : Reg8) (s : State) : Result := done 8 (s.write (s.pair .hl) (s.reg r))

/-- A load of A from memory in `n` cycles (R205, R206, R214, R216, R218). -/
def ldAAt (a : Word) (n : Nat) (s : State) : Result := done n (s.setReg .a (s.read a))

/-- A store of one byte in `n` cycles (R204, R207, R208, R213, R215, R217). -/
def stAt (a : Word) (v : Byte) (n : Nat) (s : State) : Result := done n (s.write a v)

/-- LD (BC),A (R207). -/
def exec_ld_at_bc_a (s : State) : Result := stAt (s.pair .bc) s.a 8 s

/-- LD B,d8 (R201). -/
def exec_ld_b_d8 (n : Byte) (s : State) : Result := ldRImm .b n s

/-- LD A,(BC) (R205). -/
def exec_ld_a_at_bc (s : State) : Result := ldAAt (s.pair .bc) 8 s

/-- LD C,d8 (R201). -/
def exec_ld_c_d8 (n : Byte) (s : State) : Result := ldRImm .c n s

/-- LD (DE),A (R208). -/
def exec_ld_at_de_a (s : State) : Result := stAt (s.pair .de) s.a 8 s

/-- LD D,d8 (R201). -/
def exec_ld_d_d8 (n : Byte) (s : State) : Result := ldRImm .d n s

/-- LD A,(DE) (R206). -/
def exec_ld_a_at_de (s : State) : Result := ldAAt (s.pair .de) 8 s

/-- LD E,d8 (R201). -/
def exec_ld_e_d8 (n : Byte) (s : State) : Result := ldRImm .e n s

/-- LD (HL+),A (R209). -/
def exec_ld_at_hli_a (s : State) : Result := done 8 (s.write (s.pair .hl) s.a).hlInc

/-- LD H,d8 (R201). -/
def exec_ld_h_d8 (n : Byte) (s : State) : Result := ldRImm .h n s

/-- LD A,(HL+) (R211). -/
def exec_ld_a_at_hli (s : State) : Result := done 8 (s.setReg .a (s.read (s.pair .hl))).hlInc

/-- LD L,d8 (R201). -/
def exec_ld_l_d8 (n : Byte) (s : State) : Result := ldRImm .l n s

/-- LD (HL-),A (R210). -/
def exec_ld_at_hld_a (s : State) : Result := done 8 (s.write (s.pair .hl) s.a).hlDec

/-- LD (HL),d8 (R204). -/
def exec_ld_at_hl_d8 (n : Byte) (s : State) : Result := stAt (s.pair .hl) n 12 s

/-- LD A,(HL-) (R212). -/
def exec_ld_a_at_hld (s : State) : Result := done 8 (s.setReg .a (s.read (s.pair .hl))).hlDec

/-- LD A,d8 (R201). -/
def exec_ld_a_d8 (n : Byte) (s : State) : Result := ldRImm .a n s

/-- LD B,B (R200). -/
def exec_ld_b_b (s : State) : Result := ldRR .b .b s

/-- LD B,C (R200). -/
def exec_ld_b_c (s : State) : Result := ldRR .b .c s

/-- LD B,D (R200). -/
def exec_ld_b_d (s : State) : Result := ldRR .b .d s

/-- LD B,E (R200). -/
def exec_ld_b_e (s : State) : Result := ldRR .b .e s

/-- LD B,H (R200). -/
def exec_ld_b_h (s : State) : Result := ldRR .b .h s

/-- LD B,L (R200). -/
def exec_ld_b_l (s : State) : Result := ldRR .b .l s

/-- LD B,(HL) (R202). -/
def exec_ld_b_at_hl (s : State) : Result := ldRAtHl .b s

/-- LD B,A (R200). -/
def exec_ld_b_a (s : State) : Result := ldRR .b .a s

/-- LD C,B (R200). -/
def exec_ld_c_b (s : State) : Result := ldRR .c .b s

/-- LD C,C (R200). -/
def exec_ld_c_c (s : State) : Result := ldRR .c .c s

/-- LD C,D (R200). -/
def exec_ld_c_d (s : State) : Result := ldRR .c .d s

/-- LD C,E (R200). -/
def exec_ld_c_e (s : State) : Result := ldRR .c .e s

/-- LD C,H (R200). -/
def exec_ld_c_h (s : State) : Result := ldRR .c .h s

/-- LD C,L (R200). -/
def exec_ld_c_l (s : State) : Result := ldRR .c .l s

/-- LD C,(HL) (R202). -/
def exec_ld_c_at_hl (s : State) : Result := ldRAtHl .c s

/-- LD C,A (R200). -/
def exec_ld_c_a (s : State) : Result := ldRR .c .a s

/-- LD D,B (R200). -/
def exec_ld_d_b (s : State) : Result := ldRR .d .b s

/-- LD D,C (R200). -/
def exec_ld_d_c (s : State) : Result := ldRR .d .c s

/-- LD D,D (R200). -/
def exec_ld_d_d (s : State) : Result := ldRR .d .d s

/-- LD D,E (R200). -/
def exec_ld_d_e (s : State) : Result := ldRR .d .e s

/-- LD D,H (R200). -/
def exec_ld_d_h (s : State) : Result := ldRR .d .h s

/-- LD D,L (R200). -/
def exec_ld_d_l (s : State) : Result := ldRR .d .l s

/-- LD D,(HL) (R202). -/
def exec_ld_d_at_hl (s : State) : Result := ldRAtHl .d s

/-- LD D,A (R200). -/
def exec_ld_d_a (s : State) : Result := ldRR .d .a s

/-- LD E,B (R200). -/
def exec_ld_e_b (s : State) : Result := ldRR .e .b s

/-- LD E,C (R200). -/
def exec_ld_e_c (s : State) : Result := ldRR .e .c s

/-- LD E,D (R200). -/
def exec_ld_e_d (s : State) : Result := ldRR .e .d s

/-- LD E,E (R200). -/
def exec_ld_e_e (s : State) : Result := ldRR .e .e s

/-- LD E,H (R200). -/
def exec_ld_e_h (s : State) : Result := ldRR .e .h s

/-- LD E,L (R200). -/
def exec_ld_e_l (s : State) : Result := ldRR .e .l s

/-- LD E,(HL) (R202). -/
def exec_ld_e_at_hl (s : State) : Result := ldRAtHl .e s

/-- LD E,A (R200). -/
def exec_ld_e_a (s : State) : Result := ldRR .e .a s

/-- LD H,B (R200). -/
def exec_ld_h_b (s : State) : Result := ldRR .h .b s

/-- LD H,C (R200). -/
def exec_ld_h_c (s : State) : Result := ldRR .h .c s

/-- LD H,D (R200). -/
def exec_ld_h_d (s : State) : Result := ldRR .h .d s

/-- LD H,E (R200). -/
def exec_ld_h_e (s : State) : Result := ldRR .h .e s

/-- LD H,H (R200). -/
def exec_ld_h_h (s : State) : Result := ldRR .h .h s

/-- LD H,L (R200). -/
def exec_ld_h_l (s : State) : Result := ldRR .h .l s

/-- LD H,(HL) (R202). -/
def exec_ld_h_at_hl (s : State) : Result := ldRAtHl .h s

/-- LD H,A (R200). -/
def exec_ld_h_a (s : State) : Result := ldRR .h .a s

/-- LD L,B (R200). -/
def exec_ld_l_b (s : State) : Result := ldRR .l .b s

/-- LD L,C (R200). -/
def exec_ld_l_c (s : State) : Result := ldRR .l .c s

/-- LD L,D (R200). -/
def exec_ld_l_d (s : State) : Result := ldRR .l .d s

/-- LD L,E (R200). -/
def exec_ld_l_e (s : State) : Result := ldRR .l .e s

/-- LD L,H (R200). -/
def exec_ld_l_h (s : State) : Result := ldRR .l .h s

/-- LD L,L (R200). -/
def exec_ld_l_l (s : State) : Result := ldRR .l .l s

/-- LD L,(HL) (R202). -/
def exec_ld_l_at_hl (s : State) : Result := ldRAtHl .l s

/-- LD L,A (R200). -/
def exec_ld_l_a (s : State) : Result := ldRR .l .a s

/-- LD (HL),B (R203). -/
def exec_ld_at_hl_b (s : State) : Result := ldAtHlR .b s

/-- LD (HL),C (R203). -/
def exec_ld_at_hl_c (s : State) : Result := ldAtHlR .c s

/-- LD (HL),D (R203). -/
def exec_ld_at_hl_d (s : State) : Result := ldAtHlR .d s

/-- LD (HL),E (R203). -/
def exec_ld_at_hl_e (s : State) : Result := ldAtHlR .e s

/-- LD (HL),H (R203). -/
def exec_ld_at_hl_h (s : State) : Result := ldAtHlR .h s

/-- LD (HL),L (R203). -/
def exec_ld_at_hl_l (s : State) : Result := ldAtHlR .l s

/-- LD (HL),A (R203). -/
def exec_ld_at_hl_a (s : State) : Result := ldAtHlR .a s

/-- LD A,B (R200). -/
def exec_ld_a_b (s : State) : Result := ldRR .a .b s

/-- LD A,C (R200). -/
def exec_ld_a_c (s : State) : Result := ldRR .a .c s

/-- LD A,D (R200). -/
def exec_ld_a_d (s : State) : Result := ldRR .a .d s

/-- LD A,E (R200). -/
def exec_ld_a_e (s : State) : Result := ldRR .a .e s

/-- LD A,H (R200). -/
def exec_ld_a_h (s : State) : Result := ldRR .a .h s

/-- LD A,L (R200). -/
def exec_ld_a_l (s : State) : Result := ldRR .a .l s

/-- LD A,(HL) (R202). -/
def exec_ld_a_at_hl (s : State) : Result := ldRAtHl .a s

/-- LD A,A (R200). -/
def exec_ld_a_a (s : State) : Result := ldRR .a .a s

/-- LDH (a8),A (R213). -/
def exec_ldh_at_a8_a (n : Byte) (s : State) : Result := stAt (highAddr n) s.a 12 s

/-- LD (C),A (R215). -/
def exec_ld_at_c_a (s : State) : Result := stAt (highAddr s.c) s.a 8 s

/-- LD (a16),A (R217). -/
def exec_ld_at_a16_a (n : Word) (s : State) : Result := stAt n s.a 16 s

/-- LDH A,(a8) (R214). -/
def exec_ldh_a_at_a8 (n : Byte) (s : State) : Result := ldAAt (highAddr n) 12 s

/-- LD A,(C) (R216). -/
def exec_ld_a_at_c (s : State) : Result := ldAAt (highAddr s.c) 8 s

/-- LD A,(a16) (R218). -/
def exec_ld_a_at_a16 (n : Word) (s : State) : Result := ldAAt n 16 s

end Sys2Proof.Machine
end

