-- ==== Sys2Proof/Machine/Rotate.lean ====
section
/-! DEFINITION. Rotates, shifts and SWAP (44_rotate_shift.md R320 to R332). Cycle
counts are the cycles column of spec/opcode_table.json (70_reset_and_hazards.md R620, log entry 9). -/

namespace Sys2Proof.Machine

/-- A rotate of A (R320 to R323): `flags <- (0, 0, 0, c)`. -/
def rotateA (r : Byte × Bool) (s : State) : Result := done 4 ((s.setReg .a r.1).setFlags false false false r.2)

/-- A CB rotate, shift or SWAP of an operand (R325 to R332). -/
def rotate (op : RotOp) (o : Operand8) (s : State) : Result :=
  let r := rotOut s.cfg op (s.readR o) s.flagC
  done (operandCycles o 8 16) ((s.writeR o r.res).setFlags r.z r.n r.h r.c)

/-- RLCA (R320). -/
def exec_rlca (s : State) : Result := rotateA (rotLc s.a) s

/-- RRCA (R321). -/
def exec_rrca (s : State) : Result := rotateA (rotRc s.a) s

/-- RLA (R322). -/
def exec_rla (s : State) : Result := rotateA (rotL s.a s.flagC) s

/-- RRA (R323). -/
def exec_rra (s : State) : Result := rotateA (rotR s.a s.flagC) s

/-- RLC B (R325). -/
def exec_rlc_b (s : State) : Result := rotate .rlc (.reg .b) s

/-- RLC C (R325). -/
def exec_rlc_c (s : State) : Result := rotate .rlc (.reg .c) s

/-- RLC D (R325). -/
def exec_rlc_d (s : State) : Result := rotate .rlc (.reg .d) s

/-- RLC E (R325). -/
def exec_rlc_e (s : State) : Result := rotate .rlc (.reg .e) s

/-- RLC H (R325). -/
def exec_rlc_h (s : State) : Result := rotate .rlc (.reg .h) s

/-- RLC L (R325). -/
def exec_rlc_l (s : State) : Result := rotate .rlc (.reg .l) s

/-- RLC (HL) (R325). -/
def exec_rlc_at_hl (s : State) : Result := rotate .rlc .atHl s

/-- RLC A (R325). -/
def exec_rlc_a (s : State) : Result := rotate .rlc (.reg .a) s

/-- RRC B (R326). -/
def exec_rrc_b (s : State) : Result := rotate .rrc (.reg .b) s

/-- RRC C (R326). -/
def exec_rrc_c (s : State) : Result := rotate .rrc (.reg .c) s

/-- RRC D (R326). -/
def exec_rrc_d (s : State) : Result := rotate .rrc (.reg .d) s

/-- RRC E (R326). -/
def exec_rrc_e (s : State) : Result := rotate .rrc (.reg .e) s

/-- RRC H (R326). -/
def exec_rrc_h (s : State) : Result := rotate .rrc (.reg .h) s

/-- RRC L (R326). -/
def exec_rrc_l (s : State) : Result := rotate .rrc (.reg .l) s

/-- RRC (HL) (R326). -/
def exec_rrc_at_hl (s : State) : Result := rotate .rrc .atHl s

/-- RRC A (R326). -/
def exec_rrc_a (s : State) : Result := rotate .rrc (.reg .a) s

/-- RL B (R327). -/
def exec_rl_b (s : State) : Result := rotate .rl (.reg .b) s

/-- RL C (R327). -/
def exec_rl_c (s : State) : Result := rotate .rl (.reg .c) s

/-- RL D (R327). -/
def exec_rl_d (s : State) : Result := rotate .rl (.reg .d) s

/-- RL E (R327). -/
def exec_rl_e (s : State) : Result := rotate .rl (.reg .e) s

/-- RL H (R327). -/
def exec_rl_h (s : State) : Result := rotate .rl (.reg .h) s

/-- RL L (R327). -/
def exec_rl_l (s : State) : Result := rotate .rl (.reg .l) s

/-- RL (HL) (R327). -/
def exec_rl_at_hl (s : State) : Result := rotate .rl .atHl s

/-- RL A (R327). -/
def exec_rl_a (s : State) : Result := rotate .rl (.reg .a) s

/-- RR B (R328). -/
def exec_rr_b (s : State) : Result := rotate .rr (.reg .b) s

/-- RR C (R328). -/
def exec_rr_c (s : State) : Result := rotate .rr (.reg .c) s

/-- RR D (R328). -/
def exec_rr_d (s : State) : Result := rotate .rr (.reg .d) s

/-- RR E (R328). -/
def exec_rr_e (s : State) : Result := rotate .rr (.reg .e) s

/-- RR H (R328). -/
def exec_rr_h (s : State) : Result := rotate .rr (.reg .h) s

/-- RR L (R328). -/
def exec_rr_l (s : State) : Result := rotate .rr (.reg .l) s

/-- RR (HL) (R328). -/
def exec_rr_at_hl (s : State) : Result := rotate .rr .atHl s

/-- RR A (R328). -/
def exec_rr_a (s : State) : Result := rotate .rr (.reg .a) s

/-- SLA B (R329). -/
def exec_sla_b (s : State) : Result := rotate .sla (.reg .b) s

/-- SLA C (R329). -/
def exec_sla_c (s : State) : Result := rotate .sla (.reg .c) s

/-- SLA D (R329). -/
def exec_sla_d (s : State) : Result := rotate .sla (.reg .d) s

/-- SLA E (R329). -/
def exec_sla_e (s : State) : Result := rotate .sla (.reg .e) s

/-- SLA H (R329). -/
def exec_sla_h (s : State) : Result := rotate .sla (.reg .h) s

/-- SLA L (R329). -/
def exec_sla_l (s : State) : Result := rotate .sla (.reg .l) s

/-- SLA (HL) (R329). -/
def exec_sla_at_hl (s : State) : Result := rotate .sla .atHl s

/-- SLA A (R329). -/
def exec_sla_a (s : State) : Result := rotate .sla (.reg .a) s

/-- SRA B (R330). -/
def exec_sra_b (s : State) : Result := rotate .sra (.reg .b) s

/-- SRA C (R330). -/
def exec_sra_c (s : State) : Result := rotate .sra (.reg .c) s

/-- SRA D (R330). -/
def exec_sra_d (s : State) : Result := rotate .sra (.reg .d) s

/-- SRA E (R330). -/
def exec_sra_e (s : State) : Result := rotate .sra (.reg .e) s

/-- SRA H (R330). -/
def exec_sra_h (s : State) : Result := rotate .sra (.reg .h) s

/-- SRA L (R330). -/
def exec_sra_l (s : State) : Result := rotate .sra (.reg .l) s

/-- SRA (HL) (R330). -/
def exec_sra_at_hl (s : State) : Result := rotate .sra .atHl s

/-- SRA A (R330). -/
def exec_sra_a (s : State) : Result := rotate .sra (.reg .a) s

/-- SWAP B (R331). -/
def exec_swap_b (s : State) : Result := rotate .swap (.reg .b) s

/-- SWAP C (R331). -/
def exec_swap_c (s : State) : Result := rotate .swap (.reg .c) s

/-- SWAP D (R331). -/
def exec_swap_d (s : State) : Result := rotate .swap (.reg .d) s

/-- SWAP E (R331). -/
def exec_swap_e (s : State) : Result := rotate .swap (.reg .e) s

/-- SWAP H (R331). -/
def exec_swap_h (s : State) : Result := rotate .swap (.reg .h) s

/-- SWAP L (R331). -/
def exec_swap_l (s : State) : Result := rotate .swap (.reg .l) s

/-- SWAP (HL) (R331). -/
def exec_swap_at_hl (s : State) : Result := rotate .swap .atHl s

/-- SWAP A (R331). -/
def exec_swap_a (s : State) : Result := rotate .swap (.reg .a) s

/-- SRL B (R332). -/
def exec_srl_b (s : State) : Result := rotate .srl (.reg .b) s

/-- SRL C (R332). -/
def exec_srl_c (s : State) : Result := rotate .srl (.reg .c) s

/-- SRL D (R332). -/
def exec_srl_d (s : State) : Result := rotate .srl (.reg .d) s

/-- SRL E (R332). -/
def exec_srl_e (s : State) : Result := rotate .srl (.reg .e) s

/-- SRL H (R332). -/
def exec_srl_h (s : State) : Result := rotate .srl (.reg .h) s

/-- SRL L (R332). -/
def exec_srl_l (s : State) : Result := rotate .srl (.reg .l) s

/-- SRL (HL) (R332). -/
def exec_srl_at_hl (s : State) : Result := rotate .srl .atHl s

/-- SRL A (R332). -/
def exec_srl_a (s : State) : Result := rotate .srl (.reg .a) s

end Sys2Proof.Machine
end

