-- ==== Sys2Proof/Machine/System.lean ====
section
/-! DEFINITION. System instructions, the CB prefix and unimplemented opcodes (47_system.md R400 to R406). Cycle
counts are the cycles column of spec/opcode_table.json (70_reset_and_hazards.md R620, log entry 9). -/

namespace Sys2Proof.Machine

/-- The opcodes no configuration admits: the holes (R406) and STOP (R404). A step faults after fetching the one opcode
byte, so PC is one past its address. -/
def unimplemented (op : Byte) (s : State) : Result := .next (s.raiseFatal ⟨.primary, op, s.pc - 1⟩)

/-- The rule of CB cb, by the fields of cb (R405, 30_encoding.md R115). -/
def cbRule (cb : Byte) (s : State) : Result :=
  match fieldX cb with
  | 0 => rotate (rotOf (fieldY cb)) (rOf (fieldZ cb)) s
  | 1 => bitTest (bitOf (fieldY cb)) (rOf (fieldZ cb)) s
  | 2 => bitReset (bitOf (fieldY cb)) (rOf (fieldZ cb)) s
  | _ => bitSet (bitOf (fieldY cb)) (rOf (fieldZ cb)) s

/-- NOP (R400). -/
def exec_nop (s : State) : Result := done 4 s

/-- STOP (R404). -/
def exec_stop (_n : Byte) (s : State) : Result := unimplemented 0x10 s

/-- HALT (R403). -/
def exec_halt (s : State) : Result := done 4 { s with halted := true }

/-- PREFIX CB (R405). -/
def exec_prefix_cb (cb : Byte) (s : State) : Result := cbRule cb s

/-- hole 0xD3 (R406). -/
def exec_hole_d3 (s : State) : Result := unimplemented 0xD3 s

/-- hole 0xDB (R406). -/
def exec_hole_db (s : State) : Result := unimplemented 0xDB s

/-- hole 0xDD (R406). -/
def exec_hole_dd (s : State) : Result := unimplemented 0xDD s

/-- hole 0xE3 (R406). -/
def exec_hole_e3 (s : State) : Result := unimplemented 0xE3 s

/-- hole 0xE4 (R406). -/
def exec_hole_e4 (s : State) : Result := unimplemented 0xE4 s

/-- hole 0xEB (R406). -/
def exec_hole_eb (s : State) : Result := unimplemented 0xEB s

/-- hole 0xEC (R406). -/
def exec_hole_ec (s : State) : Result := unimplemented 0xEC s

/-- hole 0xED (R406). -/
def exec_hole_ed (s : State) : Result := unimplemented 0xED s

/-- DI (R401). -/
def exec_di (s : State) : Result := done 4 { s with ime := false }

/-- hole 0xF4 (R406). -/
def exec_hole_f4 (s : State) : Result := unimplemented 0xF4 s

/-- EI (R402). -/
def exec_ei (s : State) : Result := done 4 { s with eip := true }

/-- hole 0xFC (R406). -/
def exec_hole_fc (s : State) : Result := unimplemented 0xFC s

/-- hole 0xFD (R406). -/
def exec_hole_fd (s : State) : Result := unimplemented 0xFD s

end Sys2Proof.Machine
end

