-- ==== Sys2Proof/Machine/Cpu.lean ====
section
/-! DEFINITION. The CPU step around `exec` (30_encoding.md R118), and the driver's choice of the next agent (00_scope.md
R11). -/

namespace Sys2Proof.Machine

/-- Phases 3 to 5 (R118): fetch; an opcode that is not admitted raises the fatal fault with PC past the opcode bytes
(47_system.md R406); an admitted one runs with PC past the whole instruction. -/
def State.fetchExecute (s : State) : Result :=
  let i := s.fetched
  if admits s.cfg i.opcode then exec i (s.advance i.length)
  else .next ((s.advance i.opcode.fetched).raiseFatal ⟨i.opcode.table, i.opcode.byte, s.pc⟩)

/-- Does HALTED hold the CPU (10_state.md R31)? -/
def State.asleep (s : State) : Bool := haltMode s.cfg = .halt && s.halted

/-- Phases 2b to 5 (R118): a halted CPU waits, or wakes without dispatch and runs the next instruction. -/
def State.wakeExecute (s : State) : Result :=
  if s.asleep then
    if s.pending = 0 then done 4 s else { s with halted := false }.fetchExecute
  else s.fetchExecute

/-- The source phase 1 dispatches, if any (60_exceptions.md R503). -/
def State.dispatchable (s : State) : Option IntSource := if s.ime then s.firstPending else none

/-- `CPU.step()` (R118): a dispatch returns 80 and skips the rest; otherwise the EI commit, then the instruction.
The fatal fault of an opcode that is not admitted finds the commit and the wake-up done: the order of R118 (DESIGN CHOICE,
log entry 8). -/
def State.cpuStep (s : State) : Result :=
  match s.dispatchable with
  | some k => done 80 (s.dispatch k)
  | none => s.commitEi.wakeExecute

/-- The agent that takes the next step: the driver's queued choice, else the free value (R11, log entry 5). -/
def State.nextAgent (s : State) : Agent :=
  match s.sched with
  | ag :: _ => ag
  | [] => Config.freeAgent s.turn

/-- The driver chooses the agent that takes the next step (R11): every interleaving of whole steps is such a sequence of
choices (log entry 5). -/
def State.chosen (s : State) (ag : Agent) : State := { s with sched := ag :: s.sched }

/-- The choice is used up. -/
def State.usedChoice (s : State) : State :=
  match s.sched with
  | _ :: rest => { s with sched := rest }
  | [] => { s with turn := s.turn + 1 }

end Sys2Proof.Machine
end

