-- ==== Sys2Proof/Machine/Ppu.lean ====
section
/-! DEFINITION. The PPU scanline state machine (60_exceptions.md R520 to R531). It uses the backing array directly, not
the router (20_memory.md R86). -/

namespace Sys2Proof.Machine

/-- The STAT code of a mode (10_state.md R36). -/
def PpuMode.code : PpuMode → Byte
  | .hBlank => 0
  | .vBlank => 1
  | .oamSearch => 2
  | .pixelTransfer => 3

/-- `SetMode(code m)` and `MODE <- m` (R520, R526): STAT[1:0] takes the code, STAT[7:2] stay. -/
def State.enterMode (s : State) (m : PpuMode) : State :=
  { s.setDirect 0xFF41 ((s.direct 0xFF41 &&& 0xFC) ||| m.code) with mode := m }

/-- `LINE <- n; LY <- LINE` (R520, R523). -/
def State.enterLine (s : State) (n : Nat) : State :=
  { s.setDirect 0xFF44 (BitVec.ofNat 8 n) with line := n }

/-- IF[0] <- 1 (R524). -/
def State.requestVBlank (s : State) : State := s.setDirect 0xFF0F (s.direct 0xFF0F ||| 0x01)

/-- IF[0] <- 0 (R525). -/
def State.withdrawVBlank (s : State) : State := s.setDirect 0xFF0F (s.direct 0xFF0F &&& 0xFE)

/-- The transition of one PPU step and the count it returns (R520, R522). -/
def State.ppuTransition (s : State) : State × Nat :=
  match s.mode with
  | .oamSearch => (s.enterMode .pixelTransfer, 172)
  | .pixelTransfer => ((s.enterLine (s.line + 1)).enterMode .hBlank, 204)
  | .hBlank =>
    if s.line < 144 then (s.enterMode .oamSearch, 80) else (s.requestVBlank.enterMode .vBlank, 456)
  | .vBlank =>
    if s.line + 1 < 154 then ((s.enterLine (s.line + 1)).enterMode .vBlank, 456)
    else ((s.enterLine 0).withdrawVBlank.enterMode .oamSearch, 80)

/-- `PPU.step()` (R520). -/
def State.ppuStep (s : State) : State := { s.ppuTransition.1 with returned := some s.ppuTransition.2 }

/-- `n` PPU steps in a row, and the sum of the counts they return (R522). -/
def State.ppuRun (s : State) : Nat → State × Nat
  | 0 => (s, 0)
  | n + 1 =>
    let r := s.ppuStep.ppuRun n
    (r.1, s.ppuTransition.2 + r.2)

end Sys2Proof.Machine
end

