-- ==== Sys2Proof/Machine/Step.lean ====
section
/-! DEFINITION. One step of the machine: a whole step of the agent whose turn it is (00_scope.md R10, R11). While FAULT
is set neither agent has a step (10_state.md R30, 60_exceptions.md R500). -/

namespace Sys2Proof.Machine

def step (s : State) : Host.Outcome State Fault Refusal :=
  match s.fault with
  | some info => .fault (.unimplementedOpcode info)
  | none =>
    match s.nextAgent with
    | .cpu => s.usedChoice.cpuStep
    | .ppu => .next s.usedChoice.ppuStep

/-- The instruction with bits `w` stored where the next CPU step fetches, and the CPU queued as the next agent (log
entry 18). It stands for the load of a cartridge whose ROM holds the program. -/
def State.withFetchWord (s : State) (nbits w : Nat) : State :=
  let b := tableBytes nbits w
  let s := ((s.poke s.pc b.1).poke (s.pc + 1) b.2.1).poke (s.pc + 2) b.2.2
  s.chosen .cpu

end Sys2Proof.Machine
end

