-- ==== Sys2Proof/Machine/Launch.lean ====
section
/-! DEFINITION. A launch: the reset state for every value of the parameters `RESET_CPU`, `INIT_MEM`, `MAPPER`,
`ROM_IMAGE` and `RAM_BANKS` (00_scope.md R8, 10_state.md R42 to R45, 20_memory.md R69), and the launches that are refused
(93_implementation_defined.md). `State.reset` is the launch of the default values. -/

namespace Sys2Proof.Machine

/-- `RESET_CPU` (R42). IME, EIP and FAULT are fixed, not parameters. R42 lists a default for HALTED and does not fix it;
that it is one of the parameters, where it exists, is the model's choice (DESIGN CHOICE, log entry 25). -/
structure ResetCpu where
  a : Byte
  f : Byte
  b : Byte
  c : Byte
  d : Byte
  e : Byte
  h : Byte
  l : Byte
  sp : Word
  pc : Word
  /-- HALTED, where `HALT_MODE = halt` gives the machine one (log entry 25). -/
  halted : Bool
  deriving DecidableEq, Repr

/-- The default `RESET_CPU` (R42). -/
def ResetCpu.default : ResetCpu := ⟨0x01, 0xB0, 0x00, 0x13, 0x00, 0xD8, 0x01, 0x4D, 0xFFFE, 0x0100, false⟩

/-- What a launch is given: the image as its length and its cells that are not 0x00; `initMem` and `initRam` as cells
over `unlisted`. -/
structure LaunchParams where
  cfg      : Config
  cpu      : ResetCpu
  romBytes : Nat
  rom      : List Host.Cell
  initMem  : List Host.Cell
  initRam  : List Host.Cell
  deriving DecidableEq, Repr

/-- Why a launch is refused (93_implementation_defined.md; 92_eei_decisions.md D41). A refused launch has no state. -/
inductive LoadError where
  /-- the image is not whole 16 KiB banks, or shorter than 32 KiB, or longer than 2 MiB -/
  | romLength (bytes : Nat)
  /-- the byte at 0x0147 is neither 0x00 nor 0x01 (R69) -/
  | mapperByte (v : Byte)
  /-- `RESET_CPU` has F[3:0] != 0 (R42) -/
  | resetFlags (f : Byte)
  deriving DecidableEq, Repr

/-- The mapper at reset, by the byte at ROM offset 0x0147 (R69, R45). -/
def mapperOfByte (v : Byte) : Option Mapper :=
  if v = 0x00 then some .romOnly
  else if v = 0x01 then some (.mbc1 { bankLo := 1, bankHi := 0, mode1 := .rom, ramEn := false })
  else none

/-- The image length R69 and D41 allow. -/
def romLengthOk (bytes : Nat) : Bool := bytes % 0x4000 = 0 && 0x8000 ≤ bytes && bytes ≤ 0x200000

/-- The backing array at reset: `INIT_MEM`, but STAT[2:0] = 0b010 and LY = 0x00 (R43). -/
def initialBacking (cells : List Host.Cell) : Memory :=
  let m := Memory.ofCells .backing cells
  let m := Memory.set .backing m 0xFF41 ((Memory.get .backing m 0xFF41 &&& 0xF8) ||| 0x02)
  Memory.set .backing m 0xFF44 0x00

/-- HALTED right after a launch: what `RESET_CPU` says where HALTED exists (10_state.md R31, R42; log entry 25), and
clear under `HALT_MODE = fatal`, where no rule reads it (log entry 15). -/
def haltedAtLaunch (cfg : Config) (cpu : ResetCpu) : Bool := cpu.halted && haltMode cfg = .halt

/-- The launch. -/
def launch (p : LaunchParams) : Except LoadError State :=
  if romLengthOk p.romBytes = false then .error (.romLength p.romBytes)
  else
    let rom := Memory.ofCells .rom (p.rom.filter fun c => c.1 < p.romBytes)
    match mapperOfByte (Memory.get .rom rom 0x0147) with
    | none => .error (.mapperByte (Memory.get .rom rom 0x0147))
    | some mapper =>
      if p.cpu.f &&& 0x0F ≠ 0 then .error (.resetFlags p.cpu.f)
      else
        .ok {
          a := p.cpu.a, f := p.cpu.f, b := p.cpu.b, c := p.cpu.c, d := p.cpu.d, e := p.cpu.e, h := p.cpu.h
          l := p.cpu.l, sp := p.cpu.sp, pc := p.cpu.pc, ime := false, eip := false
          halted := haltedAtLaunch p.cfg p.cpu, fault := none
          backing := initialBacking p.initMem, rom := rom, romBanks := p.romBytes / 0x4000
          cartRam := Memory.ofCells .cartRam p.initRam, mapper := mapper, mode := .oamSearch, line := 0
          cfg := p.cfg, returned := none, sched := [], turn := 0 }

/-- The launch of the default values: a 32 KiB RomOnly image of zeros (log entry 4). -/
def LaunchParams.default : LaunchParams where
  cfg := Config.default
  cpu := ResetCpu.default
  romBytes := 0x8000
  rom := []
  initMem := []
  initRam := []

end Sys2Proof.Machine
end

