-- ==== Sys2Proof/Safety.lean ====
section
/-! DEFINITION. What a good state is: the invariants of 10_state.md, 20_memory.md and 60_exceptions.md, in the terms the
statements use. -/

namespace Sys2Proof.Machine

/-- F[3:0] = 0 (10_state.md R23). -/
abbrev State.flagsClean (s : State) : Prop := s.f &&& 0x0F = 0

/-- The three stores are in canonical form. -/
abbrev State.memoryWf (s : State) : Prop :=
  Memory.wf .backing s.backing ∧ Memory.wf .rom s.rom ∧ Memory.wf .cartRam s.cartRam

/-- STAT[1:0] is the code of MODE and STAT[2] = 0 (60_exceptions.md R526, 10_state.md R36). -/
abbrev State.statMirrors (s : State) : Prop := s.direct 0xFF41 &&& 0x07 = s.mode.code

/-- The lines each mode can have (60_exceptions.md R527, 95_test_vectors.md section 5): LINE is at most 153 always. -/
def State.lineOk (s : State) : Prop :=
  match s.mode with
  | .oamSearch => s.line ≤ 143
  | .pixelTransfer => s.line ≤ 143
  | .hBlank => 1 ≤ s.line ∧ s.line ≤ 144
  | .vBlank => 144 ≤ s.line ∧ s.line ≤ 153

/-- BANK_LO is never 0 (10_state.md R40, 20_memory.md R72). -/
def State.bankOk (s : State) : Prop :=
  match s.mapper with
  | .romOnly => True
  | .mbc1 m => m.bankLo ≠ 0

/-- ROM_IMAGE has between 2 and 128 banks (20_memory.md R69, 92_eei_decisions.md D41). -/
abbrev State.romOk (s : State) : Prop := 2 ≤ s.romBanks ∧ s.romBanks ≤ 128

/-- HALTED is set only where it exists (10_state.md R31). -/
abbrev State.haltOk (s : State) : Prop := s.halted = true → haltMode s.cfg = .halt

/-- The invariant of the machine. -/
structure State.Inv (s : State) : Prop where
  flags  : s.flagsClean
  memory : s.memoryWf
  stat   : s.statMirrors
  line   : s.lineOk
  bank   : s.bankOk
  rom    : s.romOk
  halt   : s.haltOk

/-! ## Runs (00_scope.md R11, R12) -/

/-- `r` is the run in which the driver gives step `n` to the agent `who n`. A step that does not answer a next state ends
the run: after the fatal fault it stands still (60_exceptions.md R500). -/
def IsRun (who : Nat → Agent) (r : Nat → State) : Prop :=
  ∀ n, match step ((r n).chosen (who n)) with
    | .next t => r (n + 1) = t
    | _ => r (n + 1) = r n

/-- Weak fairness (R11): each agent takes infinitely many steps, and nothing is asked of where they fall: a weakly fair run
may have no CPU step while LY is some n, though 60_exceptions.md R531 says that a poll of LY eventually sees n (DESIGN
CHOICE: R11 is followed, log entry 26). -/
def WeaklyFair (who : Nat → Agent) : Prop := ∀ (ag : Agent) (k : Nat), ∃ m, k ≤ m ∧ who m = ag

/-- The byte an image given as cells has at `k`: the last cell of that address, else what an unlisted byte reads as (log
entries 3, 4 and 22). -/
def givenByte (st : Store) (cells : List Host.Cell) (k : Nat) : Byte :=
  match cells.reverse.find? fun c => c.1 == k with
  | some c => c.2
  | none => unlisted st k

/-- The bytes at PC and the two after it, as the next fetch reads them. -/
def State.bytesAtPc (s : State) : List Byte := [s.read s.pc, s.read (s.pc + 1), s.read (s.pc + 2)]

/-- The storage address of a byte of the address space: an echo address stands for its work RAM address (20_memory.md
R65), every other address for itself. -/
def canonical (a : Word) : Word := if isEcho a then a - 0x2000 else a

/-! ## What may differ after an instruction -/

/-- No byte of any store, and no mapper register, differs. -/
def sameMemory (s t : State) : Prop :=
  t.backing = s.backing ∧ t.rom = s.rom ∧ t.cartRam = s.cartRam ∧ t.mapper = s.mapper ∧ t.romBanks = s.romBanks

/-- The interrupt state, HALTED and FAULT are the same. -/
def sameControl (s t : State) : Prop :=
  t.ime = s.ime ∧ t.eip = s.eip ∧ t.halted = s.halted ∧ t.fault = s.fault

/-- The PPU, the launch's parameters and the driver's queue are the same. -/
def sameOthers (s t : State) : Prop :=
  t.mode = s.mode ∧ t.line = s.line ∧ t.cfg = s.cfg ∧ t.sched = s.sched ∧ t.turn = s.turn

/-- Everything but the registers, F, SP, PC and the returned count is the same. -/
def sameOutside (s t : State) : Prop := sameMemory s t ∧ sameControl s t ∧ sameOthers s t

/-! ## The sets an instruction writes, by the fields of its opcode (30_encoding.md R114, R115) -/

/-- The register of an `r` operand, none for (HL). -/
def operandRegs : Operand8 → List Reg8
  | .reg r => [r]
  | .atHl => []

/-- The registers of a pair; SP is none of the eight. -/
def pairRegs : Pair → List Reg8
  | .bc => [.b, .c]
  | .de => [.d, .e]
  | .hl => [.h, .l]
  | .sp => []

/-- The registers of a stack pair; F is a matter of the flags. -/
def stackPairRegs : StackPair → List Reg8
  | .bc => [.b, .c]
  | .de => [.d, .e]
  | .hl => [.h, .l]
  | .af => [.a]

/-- The registers a primary opcode writes, its addressing mode's update of HL included. -/
def primaryDest (op : Byte) : List Reg8 :=
  let y := fieldY op
  match fieldX op, fieldZ op with
  | 0, 1 => if fieldQ op = 0 then pairRegs (rpOf (fieldP op)) else [.h, .l]
  | 0, 2 => (if fieldQ op = 1 then [.a] else []) ++ (if 2 ≤ fieldP op then [.h, .l] else [])
  | 0, 3 => pairRegs (rpOf (fieldP op))
  | 0, 4 => operandRegs (rOf y)
  | 0, 5 => operandRegs (rOf y)
  | 0, 6 => operandRegs (rOf y)
  | 0, 7 => if y ≤ 5 then [.a] else []
  | 1, _ => operandRegs (rOf y)
  | 2, _ => if y = 7 then [] else [.a]
  | 3, 0 => if y = 6 then [.a] else if y = 7 then [.h, .l] else []
  | 3, 1 => if fieldQ op = 0 then stackPairRegs (rp2Of (fieldP op)) else []
  | 3, 2 => if 6 ≤ y then [.a] else []
  | 3, 6 => if y = 7 then [] else [.a]
  | _, _ => []

/-- The registers of A, B, C, D, E, H, L an instruction writes. -/
def destRegs (i : Instr) : List Reg8 :=
  match i.opcode with
  | ⟨.primary, op⟩ => primaryDest op
  | ⟨.cb, cb⟩ => if fieldX cb = 1 then [] else operandRegs (rOf (fieldZ cb))

/-- The bits of F a primary opcode writes. -/
def primaryFlags (op : Byte) : Byte :=
  match fieldX op, fieldZ op with
  | 0, 1 => if fieldQ op = 1 then 0x70 else 0x00
  | 0, 4 => 0xE0
  | 0, 5 => 0xE0
  | 0, 7 =>
    match fieldY op with
    | 4 => 0xB0
    | 5 => 0x60
    | 6 => 0x70
    | 7 => 0x70
    | _ => 0xF0
  | 2, _ => 0xF0
  | 3, 0 => if op = 0xE8 ∨ op = 0xF8 then 0xF0 else 0x00
  | 3, 1 => if op = 0xF1 then 0xF0 else 0x00
  | 3, 6 => 0xF0
  | _, _ => 0x00

/-- The bits of F an instruction writes: the entries of its `flags <-` line that are not `-`. -/
def flagMask (i : Instr) : Byte :=
  match i.opcode with
  | ⟨.primary, op⟩ => primaryFlags op
  | ⟨.cb, cb⟩ =>
    match fieldX cb with
    | 0 => 0xF0
    | 1 => 0xE0
    | _ => 0x00

/-- Does the instruction write SP (10_state.md R25)? -/
def writesSp (i : Instr) : Bool :=
  match i.opcode with
  | ⟨.primary, op⟩ =>
    [0x31, 0x33, 0x3B, 0xE8, 0xF9, 0xC1, 0xD1, 0xE1, 0xF1, 0xC5, 0xD5, 0xE5, 0xF5].contains op ||
    [0xCD, 0xC4, 0xCC, 0xD4, 0xDC, 0xC9, 0xD9, 0xC0, 0xC8, 0xD0, 0xD8].contains op ||
    (fieldX op = 3 && fieldZ op = 7)
  | ⟨.cb, _⟩ => false

/-- Does the instruction transfer control (46_control.md)? -/
def writesPc (i : Instr) : Bool :=
  match i.opcode with
  | ⟨.primary, op⟩ =>
    [0x18, 0x20, 0x28, 0x30, 0x38, 0xC3, 0xC2, 0xCA, 0xD2, 0xDA, 0xE9].contains op ||
    [0xCD, 0xC4, 0xCC, 0xD4, 0xDC, 0xC9, 0xD9, 0xC0, 0xC8, 0xD0, 0xD8].contains op ||
    (fieldX op = 3 && fieldZ op = 7)
  | ⟨.cb, _⟩ => false

/-- The two bytes a push stores to (41_load16_stack.md R230). -/
def pushedTo (s : State) : List Word := [s.sp - 1, s.sp - 2]

/-- The addresses an instruction stores to from a state, in order. -/
def storedTo (i : Instr) (s : State) : List Word :=
  match i with
  | .ld_at_a16_sp n => [n, n + 1]
  | .ld_at_a16_a n => [n]
  | .ldh_at_a8_a n => [highAddr n]
  | .ld_at_c_a => [highAddr s.c]
  | .ld_at_bc_a => [s.pair .bc]
  | .ld_at_de_a => [s.pair .de]
  | .call_a16 _ => pushedTo s
  | .call_nz_a16 _ => if s.cond .nz then pushedTo s else []
  | .call_z_a16 _ => if s.cond .z then pushedTo s else []
  | .call_nc_a16 _ => if s.cond .nc then pushedTo s else []
  | .call_c_a16 _ => if s.cond .c then pushedTo s else []
  | i =>
    match i.opcode with
    | ⟨.primary, op⟩ =>
      if fieldX op = 3 ∧ (fieldZ op = 7 ∨ (fieldZ op = 5 ∧ fieldQ op = 0)) then pushedTo s
      else if op = 0x22 ∨ op = 0x32 ∨ op = 0x34 ∨ op = 0x35 ∨ op = 0x36 then [s.pair .hl]
      else if fieldX op = 1 ∧ fieldY op = 6 ∧ fieldZ op ≠ 6 then [s.pair .hl]
      else []
    | ⟨.cb, cb⟩ => if fieldZ cb = 6 ∧ fieldX cb ≠ 1 then [s.pair .hl] else []

/-- The opcodes no configuration admits: the holes and STOP (30_encoding.md R116, 47_system.md R404). -/
def neverAdmitted (i : Instr) : Bool := i.opcode.cls = .hole || i.opcode = ⟨.primary, 0x10⟩

/-- Is an address plain storage of the backing array, read and written without a special case (20_memory.md R62, R63)?
Video RAM, work RAM, OAM, I/O other than IF and STAT, high RAM and IE; a RomOnly cartridge's 0xA000 window is plain too,
and left out here. -/
def plain (a : Word) : Bool :=
  (0x8000 ≤ a.toNat && a.toNat ≤ 0x9FFF) || (0xC000 ≤ a.toNat && a.toNat ≤ 0xDFFF) ||
  (0xFE00 ≤ a.toNat && a.toNat ≤ 0xFE9F) || (0xFF00 ≤ a.toNat && a ≠ 0xFF0F && a ≠ 0xFF41)

/-- An ALU instruction by its operation and source form (42_alu8.md R263). -/
def aluInstr (op : AluOp) : AluSrc → Instr
  | .operand o => .alu op o
  | .imm n => .aluImm op n

/-- The number two decimal digits in a byte stand for. -/
def bcd (v : Byte) : Nat := v.toNat / 16 * 10 + v.toNat % 16

/-- Are both digits decimal? -/
def isBcd (v : Byte) : Bool := v.toNat / 16 ≤ 9 && v.toNat % 16 ≤ 9

/-! ## Field codes (30_encoding.md R112) -/

/-- The code of a register in the `r` table. -/
def regCode : Reg8 → Nat
  | .b => 0
  | .c => 1
  | .d => 2
  | .e => 3
  | .h => 4
  | .l => 5
  | .a => 7

/-- The code of an operand in the `r` table. -/
def operandCode : Operand8 → Nat
  | .reg r => regCode r
  | .atHl => 6

/-- The code of a pair in the `rp` table. -/
def pairCode : Pair → Nat
  | .bc => 0
  | .de => 1
  | .hl => 2
  | .sp => 3

/-- The code of a pair in the `rp2` table. -/
def stackPairCode : StackPair → Nat
  | .bc => 0
  | .de => 1
  | .hl => 2
  | .af => 3

/-- The code of a condition in the `cc` table. -/
def condCode : Cond → Nat
  | .nz => 0
  | .z => 1
  | .nc => 2
  | .c => 3

/-- The code of an operation in the `alu` table. -/
def aluCode : AluOp → Nat
  | .add => 0
  | .adc => 1
  | .sub => 2
  | .sbc => 3
  | .and => 4
  | .xor => 5
  | .or => 6
  | .cp => 7

/-- The code of an operation in the `rot` table. -/
def rotCode : RotOp → Nat
  | .rlc => 0
  | .rrc => 1
  | .rl => 2
  | .rr => 3
  | .sla => 4
  | .sra => 5
  | .swap => 6
  | .srl => 7

/-- A one-byte encoding. -/
def opcodeByte (n : Nat) : List Byte := [BitVec.ofNat 8 n]

/-! ## What changed -/

/-- The state after byte stores in order, each through the router (20_memory.md R63). -/
def State.writes (s : State) (ws : List (Word × Byte)) : State := ws.foldl (fun t w => t.write w.1 w.2) s

/-- Of the registers A, B, C, D, E, H, L only those of `ds` may differ; the memory is what the stores `ws` leave, in
order; the interrupt state, FAULT, the PPU, the parameters and the driver's queue are the same. F, SP, PC and the
returned count are said separately. -/
def changesOnly (s t : State) (ds : List Reg8) (ws : List (Word × Byte)) : Prop :=
  (∀ r, r ∉ ds → t.reg r = s.reg r) ∧ sameMemory (s.writes ws) t ∧ sameControl s t ∧ sameOthers s t

/-- The four flags, Z, N, H, C, and F[3:0] = 0. -/
def flagsAre (t : State) (z n h c : Bool) : Prop :=
  t.flagZ = z ∧ t.flagN = n ∧ t.flagH = h ∧ t.flagC = c ∧ t.flagsClean

/-- Is source `k` requested and enabled (60_exceptions.md R502)? -/
def State.isPending (s : State) (k : Nat) : Bool := (s.direct 0xFF0F &&& s.direct 0xFFFF).getLsbD k

/-- The interrupt check finds nothing to dispatch: IME is 0, or no source is pending (60_exceptions.md R503). -/
def State.noDispatch (s : State) : Prop := s.ime = false ∨ s.direct 0xFF0F &&& s.direct 0xFFFF &&& 0x1F = 0

/-! ## What an instruction does -/

/-- The instruction is the bytes `bytes`, in the class `cls` of R117. -/
def isEncoded (i : Instr) (bytes : List Byte) (cls : OpClass) : Prop := encode i = bytes ∧ i.opcode.cls = cls

/-- From `s` the instruction answers a next state with a returned count, and of that state `P` holds. PC in `s` is
already past the instruction (10_state.md R26). -/
def completes (i : Instr) (s : State) (P : State → Prop) : Prop :=
  ∃ t n, exec i s = .next t ∧ t.returned = some n ∧ P t

/-- F, SP and PC are the same. -/
def sameFSpPc (s t : State) : Prop := t.f = s.f ∧ t.sp = s.sp ∧ t.pc = s.pc

/-- The bytes of an ALU instruction (42_alu8.md R263). -/
def aluBytes (op : AluOp) : AluSrc → List Byte
  | .operand o => [BitVec.ofNat 8 (0x80 + 8 * aluCode op + operandCode o)]
  | .imm n => [BitVec.ofNat 8 (0xC6 + 8 * aluCode op), n]

/-- A byte opcode and its little-endian 16-bit immediate (30_encoding.md R111). -/
def opWord (op : Byte) (n : Word) : List Byte := [op, BitVec.ofNat 8 n.toNat, BitVec.ofNat 8 (n.toNat / 256)]

/-- The two stores of a push of `v` (41_load16_stack.md R230): the high byte at SP - 1, the low byte at SP - 2. -/
def pushes (s : State) (v : Word) : List (Word × Byte) :=
  [(s.sp - 1, BitVec.ofNat 8 (v.toNat / 256)), (s.sp - 2, BitVec.ofNat 8 v.toNat)]

/-- The word a pop reads (R230): the low byte at SP, the high byte at SP + 1. -/
def poppedWord (s : State) : Word := BitVec.ofNat 16 ((s.read (s.sp + 1)).toNat * 256 + (s.read s.sp).toNat)

/-- The stores of an operation that leaves `v` in an `r` operand (30_encoding.md R120). -/
def operandWrites (s : State) (o : Operand8) (v : Byte) : List (Word × Byte) :=
  match o with
  | .reg _ => []
  | .atHl => [(s.pair .hl, v)]

/-- `v` was left in an `r` operand and nothing else differs but F, SP and PC (R120). -/
def leaves (s t : State) (o : Operand8) (v : Byte) : Prop :=
  (∀ r, o = .reg r → t.reg r = v) ∧ changesOnly s t (operandRegs o) (operandWrites s o v)

end Sys2Proof.Machine
end

