-- ==== Sys2Proof/Certificates/Slice0/Obligations.lean ====
section
/-! DEFINITION. The statements for the provers. Each docstring says which rules of spec/ it comes from, and which clauses
are the model's own choice. Cycle counts are informative in the spec and left open here: `completes` asks for some count. -/

open Sys2Proof Sys2Proof.Machine

/-! ## Encoding (30_encoding.md) -/

/-- R111, R114, R115: decoding the bytes of a well-formed instruction, with any bytes after them, gives it back with
every operand. -/
def Obligations.DecodeOfEncode : Prop :=
  ∀ (i : Instr) (rest : List Byte), i.wellFormed = true → decode (encode i ++ rest) = .ok (i, rest)

/-- R111, R114, R115: each byte sequence has one meaning: encoding what was decoded gives the bytes back, and the bare
prefix is never decoded. -/
def Obligations.EncodeOfDecode : Prop :=
  ∀ (bytes rest : List Byte) (i : Instr), decode bytes = .ok (i, rest) →
    encode i ++ rest = bytes ∧ i.notBarePrefix = true

/-- R110, R119: the first byte alone tells the length, 1 to 3; decoding fails exactly when fewer bytes are there. -/
def Obligations.LengthFromFirstByte : Prop :=
  ∀ (b : Byte) (rest : List Byte), 1 ≤ lengthByFirst b ∧ lengthByFirst b ≤ 3 ∧
    (lengthByFirst b ≤ rest.length + 1 →
      ∃ i after, decode (b :: rest) = .ok (i, after) ∧ i.length = lengthByFirst b) ∧
    (rest.length + 1 < lengthByFirst b → ∃ e, decode (b :: rest) = .error e)

/-- R114, R115: one word of each family, written out from the map by fields. -/
def Obligations.WordsDecode : Prop :=
  decode [0b01001000] = .ok (.ld_c_b, []) ∧
  decode [0b00111110, 0x7F] = .ok (.ld_a_d8 0x7F, []) ∧
  decode [0b00100001, 0x34, 0x12] = .ok (.ld_hl_d16 0x1234, []) ∧
  decode [0b11110101] = .ok (.push_af, []) ∧
  decode [0b10101111] = .ok (.xor_a_a, []) ∧
  decode [0b11101000, 0x02] = .ok (.add_sp_r8 0x02, []) ∧
  decode [0b00001111] = .ok (.rrca, []) ∧
  decode [0b11001011, 0b00110111] = .ok (.swap_a, []) ∧
  decode [0b11001011, 0b01111100] = .ok (.bit_7_h, []) ∧
  decode [0b11001011, 0b11001011] = .ok (.set_1_e, []) ∧
  decode [0b00100000, 0xFA] = .ok (.jr_nz_r8 0xFA, []) ∧
  decode [0b11101111] = .ok (.rst_28, []) ∧
  decode [0b01110110] = .ok (.halt, []) ∧
  decode [0b11010011] = .ok (.hole_d3, [])

/-- R117, R122: named opcodes are always admitted, holes never, STOP (47_system.md R404) never, any other extra unless
the configuration withholds it (`ADMIT_EXTRA` as withheld extras is log entry 6); and the table's counts of the classes. -/
def Obligations.AdmissionClasses : Prop :=
  (∀ (cfg : Config) (op : Opcode),
    (op.cls = .named → admits cfg op = true) ∧ (op.cls = .hole → admits cfg op = false) ∧
    admits cfg ⟨.primary, 0x10⟩ = false ∧
    (op.cls = .extra → op ≠ ⟨.primary, 0x10⟩ → (admits cfg op = true ↔ op ∉ cfg.withheld))) ∧
  (∀ n : Fin 256, admits Config.default ⟨.primary, BitVec.ofFin n⟩ = false ↔
    n.val ∈ [0x10, 0x27, 0x76, 0xD3, 0xDB, 0xDD, 0xE3, 0xE4, 0xEB, 0xEC, 0xED, 0xF4, 0xFC, 0xFD]) ∧
  ((List.finRange 256).filter fun n => (Opcode.mk .primary (BitVec.ofFin n)).cls = .named).length = 219 ∧
  ((List.finRange 256).filter fun n => (Opcode.mk .primary (BitVec.ofFin n)).cls = .extra).length = 26 ∧
  ((List.finRange 256).filter fun n => (Opcode.mk .cb (BitVec.ofFin n)).cls = .named).length = 140 ∧
  ((List.finRange 256).filter fun n => (Opcode.mk .cb (BitVec.ofFin n)).cls = .extra).length = 116

/-! ## The step (30_encoding.md R118) -/

/-- R118: when the bytes at PC decode to an admitted instruction, nothing is dispatched and the CPU is not halted, a CPU
step is `exec` of it after the EI commit, with PC past the instruction. -/
def Obligations.StepRunsDecodedInstruction : Prop :=
  ∀ (s : State) (i : Instr) (rest : List Byte),
    s.fault = none → s.nextAgent = .cpu → s.noDispatch → s.asleep = false →
    decode s.bytesAtPc = .ok (i, rest) → admits s.cfg i.opcode = true →
    step s = exec i { s.usedChoice.commitEi with pc := s.pc + BitVec.ofNat 16 i.length }

/-- 47_system.md R406, 60_exceptions.md R500: an opcode that is not admitted raises the fatal fault: the record, PC past
the opcode byte or the prefix and its second byte, nothing else changed, no count returned, and no step after it. This
holds of a halted CPU that wakes onto such an opcode too. Two clauses follow 30_encoding.md R118, whose phases 2 and 2b
come before the fetch, and not the words 'as before the step' of R406 (the model's choice, log entry 8): where EIP was
set, IME is set and EIP clear; where a halted CPU woke, HALTED is clear. -/
def Obligations.UnadmittedOpcodeFaults : Prop :=
  ∀ (s : State) (i : Instr) (rest : List Byte),
    s.fault = none → s.nextAgent = .cpu → s.noDispatch →
    (s.asleep = true → s.direct 0xFF0F &&& s.direct 0xFFFF &&& 0x1F ≠ 0) →
    decode s.bytesAtPc = .ok (i, rest) → admits s.cfg i.opcode = false →
    ∃ t, step s = .next t ∧ t.fault = some ⟨i.opcode.table, i.opcode.byte, s.pc⟩ ∧
      t.pc = s.pc + (if i.opcode.table = .cb then 2 else 1) ∧
      (∀ r, t.reg r = s.reg r) ∧ t.f = s.f ∧ t.sp = s.sp ∧ sameMemory s t ∧
      (s.eip = false → t.ime = s.ime ∧ t.eip = false) ∧ (s.eip = true → t.ime = true ∧ t.eip = false) ∧
      (s.asleep = false → t.halted = s.halted) ∧ (s.asleep = true → t.halted = false) ∧
      t.mode = s.mode ∧ t.line = s.line ∧ t.cfg = s.cfg ∧ t.returned = none ∧ ∃ r, step t = .fault r

/-- R500, 10_state.md R30: the only fault: a step answers a next state exactly while FAULT is none; afterwards it answers
FAULT's record, for both agents, and it never refuses. -/
def Obligations.StepAnswers : Prop :=
  ∀ s : State, (s.fault = none → ∃ t, step s = .next t) ∧
    ∀ info, s.fault = some info → step s = .fault (.unimplementedOpcode info)

/-- 40_load8.md to 47_system.md, R118: every instruction that some configuration can admit answers a next state from
every state, with FAULT as it was and a returned count. -/
def Obligations.EveryInstructionCompletes : Prop :=
  ∀ (i : Instr) (s : State), neverAdmitted i = false →
    ∃ t n, exec i s = .next t ∧ t.fault = s.fault ∧ t.returned = some n

/-- R116, R404, R406: the eleven holes and STOP are admitted in no configuration, and their meaning is the fatal fault. -/
def Obligations.HolesAndStopFault : Prop :=
  ∀ (i : Instr) (s : State), neverAdmitted i = true →
    i.opcode.table = .primary ∧
    i.opcode.byte ∈ [0x10, 0xD3, 0xDB, 0xDD, 0xE3, 0xE4, 0xEB, 0xEC, 0xED, 0xF4, 0xFC, 0xFD] ∧
    (∀ cfg, admits cfg i.opcode = false) ∧
    ∃ t, exec i s = .next t ∧ t.fault = some ⟨.primary, i.opcode.byte, s.pc - 1⟩ ∧ t.returned = none ∧
      sameFSpPc s t ∧ (∀ r, t.reg r = s.reg r) ∧ sameMemory s t ∧
      t.ime = s.ime ∧ t.eip = s.eip ∧ t.halted = s.halted ∧ sameOthers s t

/-! ## Interrupts (60_exceptions.md R501 to R505) -/

/-- R503, R504: with IME set, the lowest-numbered pending source is dispatched, whatever is at PC: its IF bit is cleared,
PC is pushed high byte then low byte, PC goes to the vector, IME and HALTED are cleared, 80 is returned; EIP, the
registers, F and the PPU are as they were. -/
def Obligations.InterruptDispatch : Prop :=
  ∀ (s : State) (k : Nat), s.fault = none → s.nextAgent = .cpu → s.ime = true →
    k < 5 → s.isPending k = true → (∀ j, j < k → s.isPending j = false) →
    ∃ t, step s = .next t ∧ t.pc = BitVec.ofNat 16 (0x40 + 8 * k) ∧ t.sp = s.sp - 2 ∧ t.ime = false ∧
      t.halted = false ∧ t.eip = s.eip ∧ t.fault = none ∧ t.returned = some 80 ∧ t.f = s.f ∧
      (∀ r, t.reg r = s.reg r) ∧
      sameMemory ((s.setDirect 0xFF0F (s.direct 0xFF0F &&& ~~~(1#8 <<< k))).writes (pushes s s.pc)) t ∧
      t.mode = s.mode ∧ t.line = s.line ∧ t.cfg = s.cfg

/-- R505: EI leaves IME and sets EIP; a step that does not dispatch with EIP set clears it, sets IME and then runs the
instruction at PC, even when a source is pending. -/
def Obligations.EiCommit : Prop :=
  (∀ s : State, ∃ t, exec .ei s = .next t ∧ t.ime = s.ime ∧ t.eip = true) ∧
  ∀ (s : State) (i : Instr) (rest : List Byte),
    s.fault = none → s.nextAgent = .cpu → s.noDispatch → s.eip = true → s.asleep = false →
    decode s.bytesAtPc = .ok (i, rest) → admits s.cfg i.opcode = true →
    step s = exec i { s.usedChoice with eip := false, ime := true, pc := s.pc + BitVec.ofNat 16 i.length }

/-- R401, R402, 70_reset_and_hazards.md R611: EI followed by DI, entered with IME clear, leaves IME clear after two CPU
steps; with EIP clear as well no interrupt gets in between, whatever is pending: nothing is pushed. -/
def Obligations.EiThenDi : Prop :=
  ∀ (s : State) (rest : List Agent), s.fault = none → s.sched = .cpu :: .cpu :: rest → s.ime = false →
    s.asleep = false → s.read s.pc = 0xFB → s.read (s.pc + 1) = 0xF3 →
    ∃ t u, step s = .next t ∧ step t = .next u ∧ t.ime = s.eip ∧ t.eip = true ∧ u.ime = false ∧
      (s.eip = false → u.eip = false ∧ u.pc = s.pc + 2 ∧ u.sp = s.sp ∧ sameMemory s u)

/-- 10_state.md R27, R28: what may change IME and EIP in a step: IME is set only by the EI commit or RETI and cleared
only by DI or a dispatch; EIP is set only by EI or a delayed RETI and cleared only by the commit. -/
def Obligations.ImeAndEipChanges : Prop :=
  ∀ s t : State, step s = .next t →
    (s.ime = false → t.ime = true → s.eip = true ∨ s.fetched = .reti) ∧
    (s.ime = true → t.ime = false → s.fetched = .di ∨ ¬s.noDispatch) ∧
    (s.eip = false → t.eip = true → s.fetched = .ei ∨ s.fetched = .reti ∧ s.cfg.retiMode = .delayed) ∧
    (s.eip = true → t.eip = false → s.noDispatch ∧ s.nextAgent = .cpu)

/-- R403, R118: while halted, a CPU step with nothing to dispatch waits when no source is pending, and wakes without a
dispatch and runs the instruction at PC when one is. A wake onto an opcode that is not admitted is in
`UnadmittedOpcodeFaults`. -/
def Obligations.HaltedCpu : Prop :=
  ∀ s : State, s.fault = none → s.nextAgent = .cpu → s.asleep = true → s.noDispatch →
    (s.direct 0xFF0F &&& s.direct 0xFFFF &&& 0x1F = 0 →
      ∃ t, step s = .next t ∧ t.halted = true ∧ (∀ r, t.reg r = s.reg r) ∧ sameFSpPc s t ∧ sameMemory s t ∧
        t.ime = (s.ime || s.eip) ∧ t.eip = false ∧ t.mode = s.mode ∧ t.line = s.line ∧ t.fault = none) ∧
    ∀ (i : Instr) (rest : List Byte), s.direct 0xFF0F &&& s.direct 0xFFFF &&& 0x1F ≠ 0 →
      decode s.bytesAtPc = .ok (i, rest) → admits s.cfg i.opcode = true →
      step s = exec i { s.usedChoice.commitEi with halted := false, pc := s.pc + BitVec.ofNat 16 i.length }

/-! ## The two agents (10_state.md R39, 60_exceptions.md R520 to R531) -/

/-- R39, 20_memory.md R68, R526: no CPU step changes MODE, LINE or STAT[2:0]. -/
def Obligations.CpuStepLeavesPpu : Prop :=
  ∀ s t : State, s.nextAgent = .cpu → step s = .next t →
    t.mode = s.mode ∧ t.line = s.line ∧ t.direct 0xFF41 &&& 0x07 = s.direct 0xFF41 &&& 0x07

/-- R520, R529, R531: a PPU step always completes and changes nothing of the CPU and the cartridge, and of the backing
array only STAT[1:0], LY and IF[0]. -/
def Obligations.PpuStepLeavesCpu : Prop :=
  ∀ s : State, s.fault = none → s.nextAgent = .ppu →
    ∃ t, step s = .next t ∧ (∀ r, t.reg r = s.reg r) ∧ sameFSpPc s t ∧ sameControl s t ∧ t.rom = s.rom ∧
      t.romBanks = s.romBanks ∧ t.cartRam = s.cartRam ∧ t.mapper = s.mapper ∧ t.cfg = s.cfg ∧
      (∀ k : Word, k ≠ 0xFF41 → k ≠ 0xFF44 → k ≠ 0xFF0F → t.direct k = s.direct k) ∧
      t.direct 0xFF41 &&& 0xFC = s.direct 0xFF41 &&& 0xFC ∧ t.direct 0xFF0F &&& 0xFE = s.direct 0xFF0F &&& 0xFE

/-- R521: the six transitions of a PPU step: MODE, LINE, the bytes written and the count returned. -/
def Obligations.PpuTransitions : Prop :=
  ∀ s : State, s.fault = none → s.nextAgent = .ppu →
    ∃ t, step s = .next t ∧
      (s.mode = .oamSearch → t.mode = .pixelTransfer ∧ t.line = s.line ∧ t.direct 0xFF44 = s.direct 0xFF44 ∧
        t.direct 0xFF0F = s.direct 0xFF0F ∧ t.direct 0xFF41 &&& 3 = 3 ∧ t.returned = some 172) ∧
      (s.mode = .pixelTransfer → t.mode = .hBlank ∧ t.line = s.line + 1 ∧
        t.direct 0xFF44 = BitVec.ofNat 8 (s.line + 1) ∧ t.direct 0xFF0F = s.direct 0xFF0F ∧
        t.direct 0xFF41 &&& 3 = 0 ∧ t.returned = some 204) ∧
      (s.mode = .hBlank → s.line < 144 → t.mode = .oamSearch ∧ t.line = s.line ∧ t.direct 0xFF44 = s.direct 0xFF44 ∧
        t.direct 0xFF0F = s.direct 0xFF0F ∧ t.direct 0xFF41 &&& 3 = 2 ∧ t.returned = some 80) ∧
      (s.mode = .hBlank → s.line = 144 → t.mode = .vBlank ∧ t.line = 144 ∧ t.direct 0xFF44 = s.direct 0xFF44 ∧
        t.direct 0xFF0F = s.direct 0xFF0F ||| 1 ∧ t.direct 0xFF41 &&& 3 = 1 ∧ t.returned = some 456) ∧
      (s.mode = .vBlank → s.line < 153 → t.mode = .vBlank ∧ t.line = s.line + 1 ∧
        t.direct 0xFF44 = BitVec.ofNat 8 (s.line + 1) ∧ t.direct 0xFF0F = s.direct 0xFF0F ∧
        t.direct 0xFF41 &&& 3 = 1 ∧ t.returned = some 456) ∧
      (s.mode = .vBlank → s.line = 153 → t.mode = .oamSearch ∧ t.line = 0 ∧ t.direct 0xFF44 = 0 ∧
        t.direct 0xFF0F = s.direct 0xFF0F &&& 0xFE ∧ t.direct 0xFF41 &&& 3 = 2 ∧ t.returned = some 80)

/-- R524, R525: entering VBlank sets IF[0] and leaves IF's other bits; a step inside VBlank leaves IF; the wrap to
OAMSearch clears IF[0], set or not, and leaves the other bits. -/
def Obligations.VBlankRequest : Prop :=
  ∀ s : State, s.fault = none → s.nextAgent = .ppu →
    ∃ t, step s = .next t ∧
      (s.mode = .hBlank → s.line = 144 → t.mode = .vBlank ∧ (t.direct 0xFF0F).getLsbD 0 = true ∧
        ∀ k, k ≠ 0 → (t.direct 0xFF0F).getLsbD k = (s.direct 0xFF0F).getLsbD k) ∧
      (s.mode = .vBlank → s.line < 153 → t.mode = .vBlank ∧ t.direct 0xFF0F = s.direct 0xFF0F) ∧
      (s.mode = .vBlank → s.line = 153 → t.mode = .oamSearch ∧ t.line = 0 ∧ (t.direct 0xFF0F).getLsbD 0 = false ∧
        ∀ k, k ≠ 0 → (t.direct 0xFF0F).getLsbD k = (s.direct 0xFF0F).getLsbD k)

/-- R523, R527: LY = LINE after a PPU step, for a state in which it held (the write of LY in VBlank is decision D16 of
the spec), and LINE stays at most 153. -/
def Obligations.LyMirrorsLine : Prop :=
  ∀ s t : State, s.lineOk → s.nextAgent = .ppu → step s = .next t → s.direct 0xFF44 = BitVec.ofNat 8 s.line →
    (t.direct 0xFF44).toNat = t.line ∧ t.line ≤ 153

/-- R522: a frame: from OAMSearch at line 0, 442 PPU steps and no fewer return to OAMSearch at line 0, and their counts
add up to 70224; VBlank is then no longer requested. 00_scope.md R11, R531: in a weakly fair run that never faults, every
line from 0 to 153 comes again and again, each time with LY equal to it, whatever the CPU stores. Of R531 this is its
'each value recurs'; that a polling program sees the value does not follow from R11's weak fairness, and is not stated
(the model's choice, log entry 26). -/
def Obligations.PpuFrame : Prop :=
  (∀ s : State, s.mode = .oamSearch → s.line = 0 →
    (s.ppuRun 442).1.mode = .oamSearch ∧ (s.ppuRun 442).1.line = 0 ∧ (s.ppuRun 442).2 = 70224 ∧
    ((s.ppuRun 442).1.direct 0xFF0F).getLsbD 0 = false ∧
    (∀ n, 0 < n → n < 442 → ¬((s.ppuRun n).1.mode = .oamSearch ∧ (s.ppuRun n).1.line = 0)) ∧
    ∀ n, n < 442 → ((s.ppuRun n).1.mode = .vBlank ↔ 432 ≤ n)) ∧
  ∀ (who : Nat → Agent) (r : Nat → State), IsRun who r → WeaklyFair who → (r 0).lineOk →
    (∀ n, (r n).fault = none) →
    ∀ l k : Nat, l ≤ 153 → ∃ m, k ≤ m ∧ (r m).line = l ∧ (r m).direct 0xFF44 = BitVec.ofNat 8 l

/-! ## Invariants and the launch -/

/-- R23, R36, R39, R40, R69: the invariant holds at reset. -/
def Obligations.ResetInvariant : Prop := State.reset.Inv

/-- R23, R40, R526, R527: every step from a state with the invariant leaves one with it. -/
def Obligations.StepKeepsInvariant : Prop :=
  ∀ s t : State, s.Inv → step s = .next t → t.Inv

/-- R42 to R45, R69, 93_implementation_defined.md: what a launch gives for every value of its parameters, and when it is
refused: the image and the initial memories byte by byte, STAT[7:3] from INIT_MEM, the mapper by the image's byte at
0x0147. That the default launch is `State.reset` rests on log entries 2, 3 and 4; that HALTED is a parameter where it
exists on log entry 25. -/
def Obligations.Launch : Prop :=
  (launch LaunchParams.default = .ok State.reset) ∧
  ∀ p : LaunchParams,
    match launch p with
    | .ok s => s.Inv ∧ s.a = p.cpu.a ∧ s.f = p.cpu.f ∧ s.b = p.cpu.b ∧ s.c = p.cpu.c ∧ s.d = p.cpu.d ∧ s.e = p.cpu.e ∧
        s.h = p.cpu.h ∧ s.l = p.cpu.l ∧ s.sp = p.cpu.sp ∧ s.pc = p.cpu.pc ∧
        s.ime = false ∧ s.eip = false ∧ s.fault = none ∧
        (haltMode p.cfg = .halt → s.halted = p.cpu.halted) ∧ (haltMode p.cfg = .fatal → s.halted = false) ∧
        s.mode = .oamSearch ∧ s.line = 0 ∧ s.direct 0xFF44 = 0 ∧ s.direct 0xFF41 &&& 0x07 = 0x02 ∧
        s.direct 0xFF41 &&& 0xF8 = givenByte .backing p.initMem 0xFF41 &&& 0xF8 ∧
        (∀ k : Word, k ≠ 0xFF44 → k ≠ 0xFF41 → s.direct k = givenByte .backing p.initMem k.toNat) ∧
        (∀ k, k < p.romBytes → Memory.get .rom s.rom k = givenByte .rom p.rom k) ∧
        (∀ k, k < 0x8000 → Memory.get .cartRam s.cartRam k = givenByte .cartRam p.initRam k) ∧
        (s.mapper = .romOnly ∧ givenByte .rom p.rom 0x0147 = 0 ∨
          s.mapper = .mbc1 ⟨1, 0, .rom, false⟩ ∧ givenByte .rom p.rom 0x0147 = 1) ∧
        s.romBanks * 0x4000 = p.romBytes ∧ s.cfg = p.cfg
    | .error (.romLength n) => n = p.romBytes ∧ (n % 0x4000 ≠ 0 ∨ n < 0x8000 ∨ 0x200000 < n)
    | .error (.mapperByte v) => v = givenByte .rom p.rom 0x0147 ∧ v ≠ 0 ∧ v ≠ 1
    | .error (.resetFlags f) => f = p.cpu.f ∧ f &&& 0x0F ≠ 0

/-- R40, R90, 00_scope.md R8: no step changes ROM_IMAGE, its length, the mapper's kind or a parameter. -/
def Obligations.FixedForTheRun : Prop :=
  ∀ s t : State, step s = .next t →
    t.rom = s.rom ∧ t.romBanks = s.romBanks ∧ t.cfg = s.cfg ∧ (t.mapper = .romOnly ↔ s.mapper = .romOnly)

/-! ## Memory (20_memory.md) -/

/-- R65: an echo address and its work RAM address are one storage, for reads and for writes. -/
def Obligations.EchoAlias : Prop :=
  ∀ (s : State) (x : Nat) (v : Byte), x ≤ 0x1DFF →
    s.read (BitVec.ofNat 16 (0xE000 + x)) = s.read (BitVec.ofNat 16 (0xC000 + x)) ∧
    (s.write (BitVec.ofNat 16 (0xE000 + x)) v).read (BitVec.ofNat 16 (0xC000 + x)) = v ∧
    (s.write (BitVec.ofNat 16 (0xC000 + x)) v).read (BitVec.ofNat 16 (0xE000 + x)) = v

/-- R67, R68: IF reads with bits 7:5 set and stores whole; STAT stores only bits 7:3 and reads as stored. -/
def Obligations.IfAndStat : Prop :=
  ∀ (s : State) (v : Byte),
    s.read 0xFF0F = s.direct 0xFF0F ||| 0b11100000 ∧ (s.write 0xFF0F v).direct 0xFF0F = v ∧
    s.read 0xFF41 = s.direct 0xFF41 ∧
    ∀ k, ((s.write 0xFF41 v).direct 0xFF41).getLsbD k = if k < 3 then (s.direct 0xFF41).getLsbD k else v.getLsbD k

/-- R71 to R74: the four MBC1 controls: each writes one register from the byte, BANK_LO never 0, and no byte of any store
changes. Which bits of the byte R72 to R74 take is decision D28 of the spec (log entry 14). -/
def Obligations.Mbc1Controls : Prop :=
  ∀ (s : State) (m : Mbc1) (a : Word) (v : Byte), s.mapper = .mbc1 m → a.toNat ≤ 0x7FFF →
    (s.write a v).backing = s.backing ∧ (s.write a v).rom = s.rom ∧ (s.write a v).cartRam = s.cartRam ∧
    ∃ m', (s.write a v).mapper = .mbc1 m' ∧
      (a.toNat ≤ 0x1FFF → m'.ramEn = decide (v.toNat % 16 = 10) ∧
        m'.bankLo = m.bankLo ∧ m'.bankHi = m.bankHi ∧ m'.mode1 = m.mode1) ∧
      (0x2000 ≤ a.toNat → a.toNat ≤ 0x3FFF → m'.bankLo.toNat = max 1 (v.toNat % 32) ∧
        m'.ramEn = m.ramEn ∧ m'.bankHi = m.bankHi ∧ m'.mode1 = m.mode1) ∧
      (0x4000 ≤ a.toNat → a.toNat ≤ 0x5FFF → m'.bankHi.toNat = v.toNat % 4 ∧
        m'.ramEn = m.ramEn ∧ m'.bankLo = m.bankLo ∧ m'.mode1 = m.mode1) ∧
      (0x6000 ≤ a.toNat → m'.mode1 = (if v.toNat % 2 = 0 then .rom else .ram) ∧
        m'.ramEn = m.ramEn ∧ m'.bankLo = m.bankLo ∧ m'.bankHi = m.bankHi)

/-- R69, R70, R75, R77: what cartridge addresses read. RomOnly: the image's byte, writes do nothing, and the RAM window is
plain memory. MBC1: bank 0, the selected ROM bank, and cartridge RAM, which reads 0xFF and ignores writes when disabled or
absent, and otherwise reads back what was written. -/
def Obligations.CartridgeBanks : Prop :=
  ∀ (s : State) (a : Word) (v : Byte),
    (s.mapper = .romOnly →
      (a.toNat ≤ 0x7FFF → s.read a = Memory.get .rom s.rom a.toNat ∧ s.write a v = s) ∧
      (0xA000 ≤ a.toNat → a.toNat ≤ 0xBFFF → s.read a = s.direct a ∧ (s.write a v).read a = v)) ∧
    ∀ m : Mbc1, s.mapper = .mbc1 m →
      (a.toNat ≤ 0x3FFF → s.read a = Memory.get .rom s.rom a.toNat) ∧
      (0x4000 ≤ a.toNat → a.toNat ≤ 0x7FFF →
        s.read a = Memory.get .rom s.rom
          ((if m.mode1 = .rom then 32 * m.bankHi.toNat + m.bankLo.toNat else m.bankLo.toNat) % s.romBanks * 0x4000 +
            (a.toNat - 0x4000))) ∧
      (0xA000 ≤ a.toNat → a.toNat ≤ 0xBFFF →
        (m.ramEn = false ∨ s.cfg.ramBanks = .zero → s.read a = 0xFF ∧ s.write a v = s) ∧
        (m.ramEn = true → s.cfg.ramBanks ≠ .zero → (s.write a v).read a = v ∧
          s.read a = Memory.get .cartRam s.cartRam
            ((if m.mode1 = .ram then m.bankHi.toNat else 0) % s.cfg.ramBanks.count * 0x2000 + (a.toNat - 0xA000))))

/-- R62, R63, R66, R78, R87: plain storage: a read gives the byte last written there, the write shows nowhere else but at
the echo of its address, and a 16-bit write reads back, low byte at the lower address. The unusable region reads 0xFF
whatever was stored; a store there lands in the backing array (decision D35 of the spec). -/
def Obligations.ReadAfterWrite : Prop :=
  ∀ (s : State) (a : Word) (v : Byte) (w : Word),
    (plain a = true → (s.write a v).read a = v ∧ ∀ b, canonical b ≠ a → (s.write a v).read b = s.read b) ∧
    (plain a = true → plain (a + 1) = true →
      (s.write16 a w).read16 a = w ∧ ((s.write16 a w).read a).toNat = w.toNat % 256) ∧
    (0xFEA0 ≤ a.toNat → a.toNat ≤ 0xFEFF → s.read a = 0xFF ∧ (s.write a v).read a = 0xFF ∧ (s.write a v).direct a = v)

/-! ## 8-bit loads (40_load8.md) -/

/-- R200 to R204: LD between registers, from an immediate, and to and from the byte at HL. The address is HL as it was. -/
def Obligations.LoadRegisterAndAtHl : Prop :=
  ∀ (dst r : Reg8) (n : Byte) (s : State),
    isEncoded (.ld (.reg dst) (.reg r)) (opcodeByte (0x40 + 8 * regCode dst + regCode r)) .named ∧
    completes (.ld (.reg dst) (.reg r)) s (fun t => t.reg dst = s.reg r ∧ sameFSpPc s t ∧ changesOnly s t [dst] []) ∧
    isEncoded (.ldImm (.reg dst) n) [BitVec.ofNat 8 (8 * regCode dst + 6), n] .named ∧
    completes (.ldImm (.reg dst) n) s (fun t => t.reg dst = n ∧ sameFSpPc s t ∧ changesOnly s t [dst] []) ∧
    isEncoded (.ld (.reg dst) .atHl) (opcodeByte (0x46 + 8 * regCode dst)) .named ∧
    completes (.ld (.reg dst) .atHl) s (fun t =>
      t.reg dst = s.read (s.pair .hl) ∧ sameFSpPc s t ∧ changesOnly s t [dst] []) ∧
    isEncoded (.ld .atHl (.reg r)) (opcodeByte (0x70 + regCode r)) .named ∧
    completes (.ld .atHl (.reg r)) s (fun t => sameFSpPc s t ∧ changesOnly s t [] [(s.pair .hl, s.reg r)]) ∧
    isEncoded (.ldImm .atHl n) [0x36, n] .named ∧
    completes (.ldImm .atHl n) s (fun t => sameFSpPc s t ∧ changesOnly s t [] [(s.pair .hl, n)])

/-- R205 to R212: loads and stores of A through BC, DE and HL, with the post-increment and post-decrement of HL, whose
wrap is decision D6 of the spec (log entry 14). -/
def Obligations.PointerLoads : Prop :=
  ∀ s : State,
    isEncoded .ld_a_at_bc [0x0A] .named ∧
    completes .ld_a_at_bc s (fun t => t.a = s.read (s.pair .bc) ∧ sameFSpPc s t ∧ changesOnly s t [.a] []) ∧
    isEncoded .ld_a_at_de [0x1A] .named ∧
    completes .ld_a_at_de s (fun t => t.a = s.read (s.pair .de) ∧ sameFSpPc s t ∧ changesOnly s t [.a] []) ∧
    isEncoded .ld_at_bc_a [0x02] .named ∧
    completes .ld_at_bc_a s (fun t => sameFSpPc s t ∧ changesOnly s t [] [(s.pair .bc, s.a)]) ∧
    isEncoded .ld_at_de_a [0x12] .named ∧
    completes .ld_at_de_a s (fun t => sameFSpPc s t ∧ changesOnly s t [] [(s.pair .de, s.a)]) ∧
    isEncoded .ld_at_hli_a [0x22] .named ∧
    completes .ld_at_hli_a s (fun t => (t.pair .hl).toNat = ((s.pair .hl).toNat + 1) % 65536 ∧ sameFSpPc s t ∧
      changesOnly s t [.h, .l] [(s.pair .hl, s.a)]) ∧
    isEncoded .ld_at_hld_a [0x32] .named ∧
    completes .ld_at_hld_a s (fun t => (t.pair .hl).toNat = ((s.pair .hl).toNat + 65535) % 65536 ∧ sameFSpPc s t ∧
      changesOnly s t [.h, .l] [(s.pair .hl, s.a)]) ∧
    isEncoded .ld_a_at_hli [0x2A] .named ∧
    completes .ld_a_at_hli s (fun t => t.a = s.read (s.pair .hl) ∧
      (t.pair .hl).toNat = ((s.pair .hl).toNat + 1) % 65536 ∧ sameFSpPc s t ∧ changesOnly s t [.a, .h, .l] []) ∧
    isEncoded .ld_a_at_hld [0x3A] .named ∧
    completes .ld_a_at_hld s (fun t => t.a = s.read (s.pair .hl) ∧
      (t.pair .hl).toNat = ((s.pair .hl).toNat + 65535) % 65536 ∧ sameFSpPc s t ∧ changesOnly s t [.a, .h, .l] [])

/-- R213 to R218 (general knowledge of the spec): LDH, LD (C) and LD (a16). -/
def Obligations.HighAndAbsoluteLoads : Prop :=
  ∀ (n : Byte) (a : Word) (s : State),
    isEncoded (.ldh_at_a8_a n) [0xE0, n] .extra ∧
    completes (.ldh_at_a8_a n) s (fun t => sameFSpPc s t ∧
      changesOnly s t [] [(BitVec.ofNat 16 (0xFF00 + n.toNat), s.a)]) ∧
    isEncoded (.ldh_a_at_a8 n) [0xF0, n] .extra ∧
    completes (.ldh_a_at_a8 n) s (fun t => t.a = s.read (BitVec.ofNat 16 (0xFF00 + n.toNat)) ∧ sameFSpPc s t ∧
      changesOnly s t [.a] []) ∧
    isEncoded .ld_at_c_a [0xE2] .extra ∧
    completes .ld_at_c_a s (fun t => sameFSpPc s t ∧
      changesOnly s t [] [(BitVec.ofNat 16 (0xFF00 + s.c.toNat), s.a)]) ∧
    isEncoded .ld_a_at_c [0xF2] .extra ∧
    completes .ld_a_at_c s (fun t => t.a = s.read (BitVec.ofNat 16 (0xFF00 + s.c.toNat)) ∧ sameFSpPc s t ∧
      changesOnly s t [.a] []) ∧
    isEncoded (.ld_at_a16_a a) (opWord 0xEA a) .extra ∧
    completes (.ld_at_a16_a a) s (fun t => sameFSpPc s t ∧ changesOnly s t [] [(a, s.a)]) ∧
    isEncoded (.ld_a_at_a16 a) (opWord 0xFA a) .extra ∧
    completes (.ld_a_at_a16 a) s (fun t => t.a = s.read a ∧ sameFSpPc s t ∧ changesOnly s t [.a] [])

/-! ## 16-bit loads and the stack (41_load16_stack.md) -/

/-- R231 to R233: LD rr,d16 with the low byte first, LD (a16),SP with the low byte at the lower address, LD SP,HL. -/
def Obligations.PairLoads : Prop :=
  ∀ (p : Pair) (n : Word) (s : State),
    isEncoded (.ldPair p n) (opWord (BitVec.ofNat 8 (16 * pairCode p + 1)) n) .named ∧
    completes (.ldPair p n) s (fun t => t.pair p = n ∧ t.f = s.f ∧ t.pc = s.pc ∧ (p ≠ .sp → t.sp = s.sp) ∧
      changesOnly s t (pairRegs p) []) ∧
    isEncoded (.ld_at_a16_sp n) (opWord 0x08 n) .extra ∧
    completes (.ld_at_a16_sp n) s (fun t => sameFSpPc s t ∧
      changesOnly s t [] [(n, BitVec.ofNat 8 s.sp.toNat), (n + 1, BitVec.ofNat 8 (s.sp.toNat / 256))]) ∧
    isEncoded .ld_sp_hl [0xF9] .extra ∧
    completes .ld_sp_hl s (fun t => t.sp = s.pair .hl ∧ t.f = s.f ∧ t.pc = s.pc ∧ changesOnly s t [] [])

/-- R303, R304, R234: ADD SP,r8 and LD HL,SP+r8: the displacement is signed, H and C are the carries of the unsigned
addition of the low bytes. -/
def Obligations.SpPlusOffset : Prop :=
  ∀ (n : Byte) (s : State),
    isEncoded (.add_sp_r8 n) [0xE8, n] .named ∧
    completes (.add_sp_r8 n) s (fun t => t.sp = BitVec.ofInt 16 ((s.sp.toNat : Int) + n.toInt) ∧
      flagsAre t false false (decide (15 < s.sp.toNat % 16 + n.toNat % 16)) (decide (255 < s.sp.toNat % 256 + n.toNat)) ∧
      t.pc = s.pc ∧ changesOnly s t [] []) ∧
    isEncoded (.ld_hl_sp_r8 n) [0xF8, n] .extra ∧
    completes (.ld_hl_sp_r8 n) s (fun t => t.pair .hl = BitVec.ofInt 16 ((s.sp.toNat : Int) + n.toInt) ∧
      flagsAre t false false (decide (15 < s.sp.toNat % 16 + n.toNat % 16)) (decide (255 < s.sp.toNat % 256 + n.toNat)) ∧
      t.sp = s.sp ∧ t.pc = s.pc ∧ changesOnly s t [.h, .l] [])

/-- R235 to R237: PUSH stores the high byte at SP - 1 and the low byte at SP - 2; POP reads the low byte at SP and the
high byte at SP + 1; POP AF keeps only the upper four bits of the low byte. -/
def Obligations.PushAndPop : Prop :=
  ∀ (p : StackPair) (s : State),
    isEncoded (.push p) (opcodeByte (0xC5 + 16 * stackPairCode p)) .named ∧
    completes (.push p) s (fun t => t.sp = s.sp - 2 ∧ t.f = s.f ∧ t.pc = s.pc ∧
      changesOnly s t [] (pushes s (s.stackPair p))) ∧
    isEncoded (.pop p) (opcodeByte (0xC1 + 16 * stackPairCode p)) .named ∧
    (p ≠ .af → completes (.pop p) s (fun t => t.stackPair p = poppedWord s ∧ t.sp = s.sp + 2 ∧ t.f = s.f ∧
      t.pc = s.pc ∧ changesOnly s t (stackPairRegs p) [])) ∧
    completes (.pop .af) s (fun t => t.a = s.read (s.sp + 1) ∧
      flagsAre t ((s.read s.sp).getLsbD 7) ((s.read s.sp).getLsbD 6) ((s.read s.sp).getLsbD 5) ((s.read s.sp).getLsbD 4) ∧
      t.sp = s.sp + 2 ∧ t.pc = s.pc ∧ changesOnly s t [.a] [])

/-- R236, R237, R230: PUSH then POP of the same pair is the identity on the registers, F and SP when both stack bytes are
plain storage. -/
def Obligations.PushThenPop : Prop :=
  ∀ (p : StackPair) (s : State), plain (s.sp - 1) = true → plain (s.sp - 2) = true → s.flagsClean →
    ∃ t u, exec (.push p) s = .next t ∧ exec (.pop p) t = .next u ∧ (∀ r, u.reg r = s.reg r) ∧ sameFSpPc s u

/-! ## 8-bit arithmetic and logic (42_alu8.md) -/

/-- R264, R265: ADD and ADC, every operand form. -/
def Obligations.AddAndAdc : Prop :=
  ∀ (src : AluSrc) (s : State),
    isEncoded (aluInstr .add src) (aluBytes .add src) .named ∧
    completes (aluInstr .add src) s (fun t =>
      t.a.toNat = (s.a.toNat + (s.aluSrc src).toNat) % 256 ∧
      flagsAre t (decide (t.a = 0)) false (decide (15 < s.a.toNat % 16 + (s.aluSrc src).toNat % 16))
        (decide (255 < s.a.toNat + (s.aluSrc src).toNat)) ∧
      t.sp = s.sp ∧ t.pc = s.pc ∧ changesOnly s t [.a] []) ∧
    isEncoded (aluInstr .adc src) (aluBytes .adc src) .named ∧
    completes (aluInstr .adc src) s (fun t =>
      t.a.toNat = (s.a.toNat + (s.aluSrc src).toNat + s.flagC.toNat) % 256 ∧
      flagsAre t (decide (t.a = 0)) false
        (decide (15 < s.a.toNat % 16 + (s.aluSrc src).toNat % 16 + s.flagC.toNat))
        (decide (255 < s.a.toNat + (s.aluSrc src).toNat + s.flagC.toNat)) ∧
      t.sp = s.sp ∧ t.pc = s.pc ∧ changesOnly s t [.a] [])

/-- R266, R267, R271: SUB, SBC and CP, every operand form: C is the borrow, H the borrow from bit 4 or its complement as
`HSUB_MODE` says (R262); CP leaves A. -/
def Obligations.SubSbcCp : Prop :=
  ∀ (src : AluSrc) (s : State),
    isEncoded (aluInstr .sub src) (aluBytes .sub src) .named ∧
    completes (aluInstr .sub src) s (fun t =>
      t.a.toNat = (s.a.toNat + 256 - (s.aluSrc src).toNat) % 256 ∧
      flagsAre t (decide (t.a = 0)) true
        (decide (s.a.toNat % 16 < (s.aluSrc src).toNat % 16) == decide (s.cfg.hsubSub = .borrow))
        (decide (s.a.toNat < (s.aluSrc src).toNat)) ∧
      t.sp = s.sp ∧ t.pc = s.pc ∧ changesOnly s t [.a] []) ∧
    isEncoded (aluInstr .sbc src) (aluBytes .sbc src) .named ∧
    completes (aluInstr .sbc src) s (fun t =>
      t.a.toNat = (s.a.toNat + 512 - (s.aluSrc src).toNat - s.flagC.toNat) % 256 ∧
      flagsAre t (decide (t.a = 0)) true
        (decide (s.a.toNat % 16 < (s.aluSrc src).toNat % 16 + s.flagC.toNat) == decide (s.cfg.hsubSbc = .borrow))
        (decide (s.a.toNat < (s.aluSrc src).toNat + s.flagC.toNat)) ∧
      t.sp = s.sp ∧ t.pc = s.pc ∧ changesOnly s t [.a] []) ∧
    isEncoded (aluInstr .cp src) (aluBytes .cp src) .named ∧
    completes (aluInstr .cp src) s (fun t =>
      flagsAre t (decide (s.a = s.aluSrc src)) true
        (decide (s.a.toNat % 16 < (s.aluSrc src).toNat % 16) == decide (s.cfg.hsubCp = .borrow))
        (decide (s.a.toNat < (s.aluSrc src).toNat)) ∧
      t.sp = s.sp ∧ t.pc = s.pc ∧ changesOnly s t [] [])

/-- R268 to R270: AND, XOR and OR, every operand form, bit by bit; XOR A,A gives zero whatever A was. -/
def Obligations.AndXorOr : Prop :=
  ∀ (src : AluSrc) (s : State),
    isEncoded (aluInstr .and src) (aluBytes .and src) .named ∧
    completes (aluInstr .and src) s (fun t =>
      (∀ k, t.a.getLsbD k = (s.a.getLsbD k && (s.aluSrc src).getLsbD k)) ∧
      flagsAre t (decide (t.a = 0)) false true false ∧ t.sp = s.sp ∧ t.pc = s.pc ∧ changesOnly s t [.a] []) ∧
    isEncoded (aluInstr .xor src) (aluBytes .xor src) .named ∧
    completes (aluInstr .xor src) s (fun t =>
      (∀ k, t.a.getLsbD k = (s.a.getLsbD k != (s.aluSrc src).getLsbD k)) ∧
      (src = .operand (.reg .a) → t.a = 0 ∧ t.flagZ = true) ∧
      flagsAre t (decide (t.a = 0)) false false false ∧ t.sp = s.sp ∧ t.pc = s.pc ∧ changesOnly s t [.a] []) ∧
    isEncoded (aluInstr .or src) (aluBytes .or src) .named ∧
    completes (aluInstr .or src) s (fun t =>
      (∀ k, t.a.getLsbD k = (s.a.getLsbD k || (s.aluSrc src).getLsbD k)) ∧
      flagsAre t (decide (t.a = 0)) false false false ∧ t.sp = s.sp ∧ t.pc = s.pc ∧ changesOnly s t [.a] [])

/-- R272 to R275: INC and DEC of a register or the byte at HL; C keeps its value (decision D12 of the spec). -/
def Obligations.IncAndDec : Prop :=
  ∀ (o : Operand8) (s : State),
    isEncoded (.inc o) (opcodeByte (0x04 + 8 * operandCode o)) .named ∧
    completes (.inc o) s (fun t =>
      leaves s t o (BitVec.ofNat 8 ((s.readR o).toNat + 1)) ∧
      flagsAre t (decide ((s.readR o).toNat = 255)) false (decide ((s.readR o).toNat % 16 = 15)) s.flagC ∧
      t.sp = s.sp ∧ t.pc = s.pc) ∧
    isEncoded (.dec o) (opcodeByte (0x05 + 8 * operandCode o)) .named ∧
    completes (.dec o) s (fun t =>
      leaves s t o (BitVec.ofNat 8 ((s.readR o).toNat + 255)) ∧
      flagsAre t (decide ((s.readR o).toNat = 1)) true (decide ((s.readR o).toNat % 16 = 0)) s.flagC ∧
      t.sp = s.sp ∧ t.pc = s.pc)

/-- R276 to R279 (general knowledge of the spec): DAA by its pseudocode, CPL, SCF, CCF. -/
def Obligations.DaaCplScfCcf : Prop :=
  ∀ s : State,
    isEncoded .daa [0x27] .extra ∧
    completes .daa s (fun t =>
      (s.flagN = false → t.a.toNat = (s.a.toNat + (if s.flagC ∨ 0x99 < s.a.toNat then 0x60 else 0) +
        (if s.flagH ∨ 9 < s.a.toNat % 16 then 6 else 0)) % 256) ∧
      (s.flagN = true → t.a.toNat = (s.a.toNat + 256 - (if s.flagC then 0x60 else 0) -
        (if s.flagH then 6 else 0)) % 256) ∧
      flagsAre t (decide (t.a = 0)) s.flagN false (s.flagC || !s.flagN && decide (0x99 < s.a.toNat)) ∧
      t.sp = s.sp ∧ t.pc = s.pc ∧ changesOnly s t [.a] []) ∧
    isEncoded .cpl [0x2F] .extra ∧
    completes .cpl s (fun t => t.a.toNat = 255 - s.a.toNat ∧ flagsAre t s.flagZ true true s.flagC ∧
      t.sp = s.sp ∧ t.pc = s.pc ∧ changesOnly s t [.a] []) ∧
    isEncoded .scf [0x37] .extra ∧
    completes .scf s (fun t => flagsAre t s.flagZ false false true ∧ t.sp = s.sp ∧ t.pc = s.pc ∧
      changesOnly s t [] []) ∧
    isEncoded .ccf [0x3F] .extra ∧
    completes .ccf s (fun t => flagsAre t s.flagZ false false (!s.flagC) ∧ t.sp = s.sp ∧ t.pc = s.pc ∧
      changesOnly s t [] [])

/-- R264 to R267, R276: DAA after ADD, ADC, SUB or SBC of two BCD bytes gives the BCD sum or difference modulo 100 and
its carry or borrow in C. For the subtractions `HSUB_MODE` is `borrow`, the default. -/
def Obligations.DaaCorrectsBcd : Prop :=
  ∀ (src : AluSrc) (s : State), isBcd s.a = true → isBcd (s.aluSrc src) = true →
    (∃ t u, exec (aluInstr .add src) s = .next t ∧ exec .daa t = .next u ∧ isBcd u.a = true ∧
      bcd u.a = (bcd s.a + bcd (s.aluSrc src)) % 100 ∧ u.flagC = decide (100 ≤ bcd s.a + bcd (s.aluSrc src))) ∧
    (∃ t u, exec (aluInstr .adc src) s = .next t ∧ exec .daa t = .next u ∧ isBcd u.a = true ∧
      bcd u.a = (bcd s.a + bcd (s.aluSrc src) + s.flagC.toNat) % 100 ∧
      u.flagC = decide (100 ≤ bcd s.a + bcd (s.aluSrc src) + s.flagC.toNat)) ∧
    (s.cfg.hsubSub = .borrow → ∃ t u, exec (aluInstr .sub src) s = .next t ∧ exec .daa t = .next u ∧
      isBcd u.a = true ∧ bcd u.a = (bcd s.a + 100 - bcd (s.aluSrc src)) % 100 ∧
      u.flagC = decide (bcd s.a < bcd (s.aluSrc src))) ∧
    (s.cfg.hsubSbc = .borrow → ∃ t u, exec (aluInstr .sbc src) s = .next t ∧ exec .daa t = .next u ∧
      isBcd u.a = true ∧ bcd u.a = (bcd s.a + 100 - bcd (s.aluSrc src) - s.flagC.toNat) % 100 ∧
      u.flagC = decide (bcd s.a < bcd (s.aluSrc src) + s.flagC.toNat))

/-! ## 16-bit arithmetic (43_alu16.md) -/

/-- R300, R301: INC rr and DEC rr wrap and write no flag. The wrap is decision D6 of the spec (log entry 14). -/
def Obligations.IncAndDecPair : Prop :=
  ∀ (p : Pair) (s : State),
    isEncoded (.incPair p) (opcodeByte (0x03 + 16 * pairCode p)) .named ∧
    completes (.incPair p) s (fun t => (t.pair p).toNat = ((s.pair p).toNat + 1) % 65536 ∧ t.f = s.f ∧ t.pc = s.pc ∧
      (p ≠ .sp → t.sp = s.sp) ∧ changesOnly s t (pairRegs p) []) ∧
    isEncoded (.decPair p) (opcodeByte (0x0B + 16 * pairCode p)) .named ∧
    completes (.decPair p) s (fun t => (t.pair p).toNat = ((s.pair p).toNat + 65535) % 65536 ∧ t.f = s.f ∧
      t.pc = s.pc ∧ (p ≠ .sp → t.sp = s.sp) ∧ changesOnly s t (pairRegs p) [])

/-- R302: ADD HL,rr: H is the carry out of bit 11, or out of bit 7 under `ADDHL_H_MASK` = 0x0100; Z keeps its value
(decision D12 of the spec). -/
def Obligations.AddHl : Prop :=
  ∀ (p : Pair) (s : State),
    isEncoded (.addHl p) (opcodeByte (0x09 + 16 * pairCode p)) .named ∧
    completes (.addHl p) s (fun t =>
      (t.pair .hl).toNat = ((s.pair .hl).toNat + (s.pair p).toNat) % 65536 ∧
      flagsAre t s.flagZ false
        (if s.cfg.addHlHMask = .mask1000 then decide (4095 < (s.pair .hl).toNat % 4096 + (s.pair p).toNat % 4096)
          else decide (255 < (s.pair .hl).toNat % 256 + (s.pair p).toNat % 256))
        (decide (65535 < (s.pair .hl).toNat + (s.pair p).toNat)) ∧
      t.sp = s.sp ∧ t.pc = s.pc ∧ changesOnly s t [.h, .l] [])

/-! ## Rotates, shifts and bits (44_rotate_shift.md, 45_bit.md) -/

/-- R320 to R323: RLCA, RRCA, RLA, RRA: C is the bit rotated out, Z, N and H are cleared. -/
def Obligations.AccumulatorRotates : Prop :=
  ∀ s : State,
    isEncoded .rlca [0x07] .named ∧
    completes .rlca s (fun t => t.a.toNat = s.a.toNat * 2 % 256 + s.a.toNat / 128 ∧
      flagsAre t false false false (decide (128 ≤ s.a.toNat)) ∧ t.sp = s.sp ∧ t.pc = s.pc ∧ changesOnly s t [.a] []) ∧
    isEncoded .rrca [0x0F] .named ∧
    completes .rrca s (fun t => t.a.toNat = s.a.toNat / 2 + s.a.toNat % 2 * 128 ∧
      flagsAre t false false false (decide (s.a.toNat % 2 = 1)) ∧ t.sp = s.sp ∧ t.pc = s.pc ∧
      changesOnly s t [.a] []) ∧
    isEncoded .rla [0x17] .named ∧
    completes .rla s (fun t => t.a.toNat = s.a.toNat * 2 % 256 + s.flagC.toNat ∧
      flagsAre t false false false (decide (128 ≤ s.a.toNat)) ∧ t.sp = s.sp ∧ t.pc = s.pc ∧ changesOnly s t [.a] []) ∧
    isEncoded .rra [0x1F] .named ∧
    completes .rra s (fun t => t.a.toNat = s.a.toNat / 2 + s.flagC.toNat * 128 ∧
      flagsAre t false false false (decide (s.a.toNat % 2 = 1)) ∧ t.sp = s.sp ∧ t.pc = s.pc ∧
      changesOnly s t [.a] [])

/-- R324 to R332: the CB rotates, shifts and SWAP of a register or the byte at HL: the value, the bit shifted out in C,
Z by `CB_SHIFT_Z` (SWAP: from the result). -/
def Obligations.CbRotates : Prop :=
  ∀ (op : RotOp) (o : Operand8) (s : State),
    encode (.rot op o) = [0xCB, BitVec.ofNat 8 (8 * rotCode op + operandCode o)] ∧
    completes (.rot op o) s (fun t => ∃ w : Byte, leaves s t o w ∧
      w.toNat = (match op with
        | .rlc => (s.readR o).toNat * 2 % 256 + (s.readR o).toNat / 128
        | .rrc => (s.readR o).toNat / 2 + (s.readR o).toNat % 2 * 128
        | .rl => (s.readR o).toNat * 2 % 256 + s.flagC.toNat
        | .rr => (s.readR o).toNat / 2 + s.flagC.toNat * 128
        | .sla => (s.readR o).toNat * 2 % 256
        | .sra => (s.readR o).toNat / 2 + (s.readR o).toNat / 128 * 128
        | .swap => (s.readR o).toNat % 16 * 16 + (s.readR o).toNat / 16
        | .srl => (s.readR o).toNat / 2) ∧
      flagsAre t (decide (w = 0) && decide (op = .swap ∨ s.cfg.cbShiftZ = .result)) false false
        (match op with
        | .rlc | .rl | .sla => decide (128 ≤ (s.readR o).toNat)
        | .rrc | .rr | .sra | .srl => decide ((s.readR o).toNat % 2 = 1)
        | .swap => false) ∧
      t.sp = s.sp ∧ t.pc = s.pc)

/-- R350, R351: BIT sets Z to the complement of the bit, clears N, sets H, leaves C and the operand. The form at HL, R351,
is general knowledge of the spec (log entry 14). -/
def Obligations.BitTest : Prop :=
  ∀ (b : Fin 8) (o : Operand8) (s : State),
    isEncoded (.bit b o) [0xCB, BitVec.ofNat 8 (0x40 + 8 * b.val + operandCode o)]
      (if o = .atHl then .extra else .named) ∧
    completes (.bit b o) s (fun t => flagsAre t (!(s.readR o).getLsbD b.val) false true s.flagC ∧
      t.sp = s.sp ∧ t.pc = s.pc ∧ changesOnly s t [] [])

/-- R352 to R355: RES and SET clear and set one bit of a register or the byte at HL, and write no flag. -/
def Obligations.ResetAndSetBit : Prop :=
  ∀ (b : Fin 8) (o : Operand8) (s : State),
    encode (.res b o) = [0xCB, BitVec.ofNat 8 (0x80 + 8 * b.val + operandCode o)] ∧
    completes (.res b o) s (fun t => ∃ w : Byte, leaves s t o w ∧ sameFSpPc s t ∧
      ∀ k, w.getLsbD k = ((s.readR o).getLsbD k && decide (k ≠ b.val))) ∧
    encode (.set b o) = [0xCB, BitVec.ofNat 8 (0xC0 + 8 * b.val + operandCode o)] ∧
    completes (.set b o) s (fun t => ∃ w : Byte, leaves s t o w ∧ sameFSpPc s t ∧
      ∀ k, w.getLsbD k = ((s.readR o).getLsbD k || decide (k = b.val)))

/-- R405, R115: the prefix and its second byte are one instruction: the CB row. PREFIX CB as a constructor, which no
bytes decode to (log entry 11), means the same. -/
def Obligations.CbPrefix : Prop :=
  ∀ (cb : Byte) (rest : List Byte) (s : State),
    decode (0xCB :: cb :: rest) = .ok (cbRow cb, rest) ∧ encode (cbRow cb) = [0xCB, cb] ∧
    exec (.prefix_cb cb) s = exec (cbRow cb) s ∧ ∃ t n, exec (.prefix_cb cb) s = .next t ∧ t.returned = some n

/-! ## Control (46_control.md) -/

/-- R370 to R375: jumps: the target of JR is PC past the instruction plus the signed displacement; a jump not taken goes
on; nothing else changes. -/
def Obligations.Jumps : Prop :=
  ∀ (cc : Cond) (n : Word) (e : Byte) (s : State),
    isEncoded (.jp_a16 n) (opWord 0xC3 n) .named ∧
    completes (.jp_a16 n) s (fun t => t.pc = n ∧ t.f = s.f ∧ t.sp = s.sp ∧ changesOnly s t [] []) ∧
    isEncoded (.jpCc cc n) (opWord (BitVec.ofNat 8 (0xC2 + 8 * condCode cc)) n) .named ∧
    completes (.jpCc cc n) s (fun t => t.pc = (if s.cond cc then n else s.pc) ∧ t.f = s.f ∧ t.sp = s.sp ∧
      changesOnly s t [] []) ∧
    isEncoded .jp_at_hl [0xE9] .extra ∧
    completes .jp_at_hl s (fun t => t.pc = s.pair .hl ∧ t.f = s.f ∧ t.sp = s.sp ∧ changesOnly s t [] []) ∧
    isEncoded (.jr_r8 e) [0x18, e] .named ∧
    completes (.jr_r8 e) s (fun t => t.pc = BitVec.ofInt 16 ((s.pc.toNat : Int) + e.toInt) ∧ t.f = s.f ∧
      t.sp = s.sp ∧ changesOnly s t [] []) ∧
    isEncoded (.jrCc cc e) [BitVec.ofNat 8 (0x20 + 8 * condCode cc), e] .named ∧
    completes (.jrCc cc e) s (fun t =>
      t.pc = (if s.cond cc then BitVec.ofInt 16 ((s.pc.toNat : Int) + e.toInt) else s.pc) ∧ t.f = s.f ∧ t.sp = s.sp ∧
      changesOnly s t [] [])

/-- R376 to R379, R381: CALL and RST push PC past the instruction and jump; RET pops PC; a conditional form not taken
makes no stack access. -/
def Obligations.CallsAndReturns : Prop :=
  ∀ (cc : Cond) (n : Word) (y : Fin 8) (s : State),
    isEncoded (.call_a16 n) (opWord 0xCD n) .named ∧
    completes (.call_a16 n) s (fun t => t.pc = n ∧ t.sp = s.sp - 2 ∧ t.f = s.f ∧ changesOnly s t [] (pushes s s.pc)) ∧
    isEncoded (.callCc cc n) (opWord (BitVec.ofNat 8 (0xC4 + 8 * condCode cc)) n) .extra ∧
    completes (.callCc cc n) s (fun t => t.f = s.f ∧
      (s.cond cc = true → t.pc = n ∧ t.sp = s.sp - 2 ∧ changesOnly s t [] (pushes s s.pc)) ∧
      (s.cond cc = false → t.pc = s.pc ∧ t.sp = s.sp ∧ changesOnly s t [] [])) ∧
    isEncoded (.rst y) (opcodeByte (0xC7 + 8 * y.val)) .named ∧
    completes (.rst y) s (fun t => t.pc = BitVec.ofNat 16 (8 * y.val) ∧ t.sp = s.sp - 2 ∧ t.f = s.f ∧
      changesOnly s t [] (pushes s s.pc)) ∧
    isEncoded .ret [0xC9] .named ∧
    completes .ret s (fun t => t.pc = poppedWord s ∧ t.sp = s.sp + 2 ∧ t.f = s.f ∧ changesOnly s t [] []) ∧
    isEncoded (.retCc cc) (opcodeByte (0xC0 + 8 * condCode cc)) .extra ∧
    completes (.retCc cc) s (fun t => t.f = s.f ∧ changesOnly s t [] [] ∧
      (s.cond cc = true → t.pc = poppedWord s ∧ t.sp = s.sp + 2) ∧
      (s.cond cc = false → t.pc = s.pc ∧ t.sp = s.sp))

/-- R380 (general knowledge of the spec): RETI pops PC and sets IME at once, or EIP under `RETI_MODE = delayed`. -/
def Obligations.ReturnFromInterrupt : Prop :=
  ∀ s : State,
    isEncoded .reti [0xD9] .extra ∧
    completes .reti s (fun t => t.pc = poppedWord s ∧ t.sp = s.sp + 2 ∧ t.f = s.f ∧ (∀ r, t.reg r = s.reg r) ∧
      (s.cfg.retiMode = .immediate → t.ime = true ∧ t.eip = s.eip) ∧
      (s.cfg.retiMode = .delayed → t.ime = s.ime ∧ t.eip = true) ∧
      sameMemory s t ∧ t.halted = s.halted ∧ t.fault = s.fault ∧ sameOthers s t)

/-! ## System (47_system.md) -/

/-- R401, R402: DI clears IME and leaves EIP; EI sets EIP and leaves IME; nothing else changes. -/
def Obligations.DiAndEi : Prop :=
  ∀ s : State,
    isEncoded .di [0xF3] .named ∧
    completes .di s (fun t => t.ime = false ∧ t.eip = s.eip ∧ sameFSpPc s t ∧ (∀ r, t.reg r = s.reg r) ∧
      sameMemory s t ∧ t.halted = s.halted ∧ t.fault = s.fault ∧ sameOthers s t) ∧
    isEncoded .ei [0xFB] .named ∧
    completes .ei s (fun t => t.ime = s.ime ∧ t.eip = true ∧ sameFSpPc s t ∧ (∀ r, t.reg r = s.reg r) ∧
      sameMemory s t ∧ t.halted = s.halted ∧ t.fault = s.fault ∧ sameOthers s t)

/-- R400, R403: NOP changes nothing but PC, which its step already advanced; HALT, where it is admitted, sets HALTED. -/
def Obligations.NopAndHalt : Prop :=
  ∀ s : State,
    isEncoded .nop [0x00] .extra ∧
    completes .nop s (fun t => sameFSpPc s t ∧ changesOnly s t [] []) ∧
    isEncoded .halt [0x76] .extra ∧
    completes .halt s (fun t => t.halted = true ∧ t.ime = s.ime ∧ t.eip = s.eip ∧ t.fault = s.fault ∧ sameFSpPc s t ∧
      (∀ r, t.reg r = s.reg r) ∧ sameMemory s t ∧ sameOthers s t)

/-! ## Frames: what an instruction leaves unchanged -/

/-- 10_state.md R20, R21 and the rule of each instruction: of the registers A, B, C, D, E, H, L an instruction changes
only its destinations `destRegs`, HL's post-increment and post-decrement included. -/
def Obligations.FrameRegisters : Prop :=
  ∀ (i : Instr) (s t : State), exec i s = .next t → ∀ r, r ∉ destRegs i → t.reg r = s.reg r

/-- R23, R24 and the flags line of each instruction: the bits of F outside `flagMask` stay. F[3:0] = 0 is the invariant. -/
def Obligations.FrameFlags : Prop :=
  ∀ (i : Instr) (s t : State), s.flagsClean → exec i s = .next t →
    t.f &&& ~~~flagMask i = s.f &&& ~~~flagMask i

/-- R25, R26: SP changes only by the instructions `writesSp` names (RETI among them), PC only by the control transfers. -/
def Obligations.FramePointers : Prop :=
  ∀ (i : Instr) (s t : State), exec i s = .next t →
    (writesSp i = false → t.sp = s.sp) ∧ (writesPc i = false → t.pc = s.pc)

/-- R27 to R31, R39: IME changes only by DI and RETI, EIP only by EI and RETI, HALTED only by HALT, FAULT only by the
holes and STOP; no instruction changes the PPU, the parameters or the driver's queue. -/
def Obligations.FrameControl : Prop :=
  ∀ (i : Instr) (s t : State), exec i s = .next t →
    sameOthers s t ∧ (i ≠ .di → i ≠ .reti → t.ime = s.ime) ∧ (i ≠ .ei → i ≠ .reti → t.eip = s.eip) ∧
    (i ≠ .halt → t.halted = s.halted) ∧ (neverAdmitted i = false → t.fault = s.fault)

/-- R62, R63, R83, R87 and the rule of each instruction: `storedTo` computes the addresses an instruction stores to from
the state before it. A form that stores nothing leaves every byte. Where it stores at 0x8000 and above, every address
with another storage reads as before and the mapper is as it was. Stores below 0x8000 are mapper control writes and change
no byte. The ROM image never changes. -/
def Obligations.FrameMemory : Prop :=
  ∀ (i : Instr) (s t : State), exec i s = .next t →
    t.rom = s.rom ∧ t.romBanks = s.romBanks ∧
    (storedTo i s = [] → sameMemory s t ∧ ∀ a, t.read a = s.read a) ∧
    (∀ k : Word, (∀ a ∈ storedTo i s, k ≠ canonical a) → t.direct k = s.direct k) ∧
    ((∀ a ∈ storedTo i s, 0x8000 ≤ a.toNat) → t.mapper = s.mapper ∧
      ∀ a, (∀ b ∈ storedTo i s, canonical a ≠ canonical b) → t.read a = s.read a) ∧
    ((∀ a ∈ storedTo i s, a.toNat ≤ 0x7FFF) → t.backing = s.backing ∧ t.cartRam = s.cartRam) ∧
    ((∀ a ∈ storedTo i s, ¬(0xA000 ≤ a.toNat ∧ a.toNat ≤ 0xBFFF)) → t.cartRam = s.cartRam)
end

