-- ==== Sys2Proof/Laws/Encoding.lean ====
section
/-! SUPPORT. Byte halves of a word, and the encoding of what each cell of the opcode maps decodes to. -/

namespace Sys2Proof

theorem join_hiByte_loByte (n : Word) : join (hiByte n) (loByte n) = n := by
  unfold join hiByte loByte
  ext i hi
  rw [BitVec.getElem_append]
  simp
  split_ifs
  · simp [← BitVec.getLsbD_eq_getElem]
  · simp [← BitVec.getLsbD_eq_getElem]
    congr 1
    omega

theorem hiByte_join (hi lo : Byte) : hiByte (join hi lo) = hi := by
  unfold join hiByte
  ext i hi
  simp
  rw [BitVec.getLsbD_append]
  simp [← BitVec.getLsbD_eq_getElem]

theorem loByte_join (hi lo : Byte) : loByte (join hi lo) = lo := by
  unfold join loByte
  ext i hi
  simp
  rw [BitVec.getLsbD_append]
  simp [hi, ← BitVec.getLsbD_eq_getElem]

/-- What a cell of the primary map decodes to is encoded by that cell's byte and the immediate bytes. -/
def Row.encodes (op : Byte) : Row → Prop
  | .op i => encode i = [op] ∧ i.notBarePrefix = true
  | .d8 k => ∀ n, encode (k n) = [op, n] ∧ (k n).notBarePrefix = true
  | .d16 k => ∀ n, encode (k n) = [op, loByte n, hiByte n] ∧ (k n).notBarePrefix = true
  | .cbPrefix => op = 0xCB

/-- A statement about all bytes from one about the numbers below 256. -/
theorem forall_byte {P : Byte → Prop} (h : ∀ n, n < 256 → P (BitVec.ofNat 8 n)) (op : Byte) : P op := by
  have := h op.toNat op.isLt
  simpa using this

theorem primaryRow_encodes (op : Byte) : (primaryRow op).encodes op := by
  revert op
  apply forall_byte
  intro n hn
  interval_cases n <;> first
    | exact ⟨rfl, rfl⟩
    | exact fun n => ⟨rfl, rfl⟩
    | exact (rfl : (0xCB : Byte) = 0xCB)

theorem encode_cbRow (cb : Byte) : encode (cbRow cb) = [0xCB, cb] ∧ (cbRow cb).notBarePrefix = true := by
  revert cb
  decide

/-- Three bytes always decode, and to what `decode3` gives. -/
theorem decode_three {b0 b1 b2 : Byte} {i : Instr} {rest : List Byte}
    (h : decode [b0, b1, b2] = .ok (i, rest)) : decode3 b0 b1 b2 = i := by
  unfold decode at h
  unfold decode3
  dsimp only at h
  split at h <;> rename_i he <;> simp_all

theorem decode_three_ok (b0 b1 b2 : Byte) : ∃ rest, decode [b0, b1, b2] = .ok (decode3 b0 b1 b2, rest) := by
  unfold decode decode3
  dsimp only
  cases h : primaryRow b0 <;> exact ⟨_, rfl⟩

end Sys2Proof
end

