-- ==== Sys2Proof/Laws/Memory.lean ====
section
/-! SUPPORT. The laws of a store: read over write without any hypothesis, and the canonical form kept by every operation. -/

namespace Sys2Proof.Machine

theorem Memory.get_insert_same (st : Store) (m : Memory) (k : Nat) (v : Byte)
    (h : ∀ c ∈ m, c.1 ≠ k) : Memory.get st (Memory.insert k v m) k = v := by
  induction m with
  | nil => simp [Memory.insert, Memory.get]
  | cons c m ih =>
    obtain ⟨k', v'⟩ := c
    have hk : k' ≠ k := h (k', v') (by simp)
    have hm : ∀ c ∈ m, c.1 ≠ k := fun c hc => h c (by simp [hc])
    simp only [Memory.insert]
    split
    · simp [Memory.get]
    · simp [Memory.get, hk, ih hm]

theorem Memory.get_insert_other (st : Store) (m : Memory) (k j : Nat) (v : Byte) (h : j ≠ k) :
    Memory.get st (Memory.insert k v m) j = Memory.get st m j := by
  induction m with
  | nil => simp [Memory.insert, Memory.get, Ne.symm h]
  | cons c m ih =>
    obtain ⟨k', v'⟩ := c
    simp only [Memory.insert]
    split
    · simp [Memory.get, Ne.symm h]
    · simp [Memory.get, ih]

theorem Memory.get_filter_same (st : Store) (m : Memory) (k : Nat) :
    Memory.get st (m.filter fun c => c.1 != k) k = unlisted st k := by
  induction m with
  | nil => rfl
  | cons c m ih =>
    obtain ⟨k', v'⟩ := c
    by_cases h : k' = k
    · simp [h, ih]
    · simp [h, Memory.get, ih]

theorem Memory.get_filter_other (st : Store) (m : Memory) (k j : Nat) (h : j ≠ k) :
    Memory.get st (m.filter fun c => c.1 != k) j = Memory.get st m j := by
  induction m with
  | nil => rfl
  | cons c m ih =>
    obtain ⟨k', v'⟩ := c
    by_cases hk : k' = k
    · subst hk
      simp [Memory.get, ih, Ne.symm h]
    · simp [hk, Memory.get, ih]

/-- A read after a write to the same byte gives the value written. -/
@[simp] theorem Memory.get_set_same (st : Store) (m : Memory) (k : Nat) (v : Byte) :
    Memory.get st (Memory.set st m k v) k = v := by
  simp only [Memory.set]
  split
  · rename_i h
    simp [Memory.get_filter_same, h]
  · exact Memory.get_insert_same st _ k v (by simp)

/-- A write leaves every other byte alone. -/
theorem Memory.get_set_other (st : Store) (m : Memory) (k j : Nat) (v : Byte) (h : j ≠ k) :
    Memory.get st (Memory.set st m k v) j = Memory.get st m j := by
  simp only [Memory.set]
  split
  · exact Memory.get_filter_other st m k j h
  · rw [Memory.get_insert_other st _ k j v h, Memory.get_filter_other st m k j h]

theorem Memory.get_set (st : Store) (m : Memory) (k j : Nat) (v : Byte) :
    Memory.get st (Memory.set st m k v) j = if j = k then v else Memory.get st m j := by
  split
  · rename_i h
    simp [h]
  · rename_i h
    exact Memory.get_set_other st m k j v h

theorem Memory.mem_insert (k : Nat) (v : Byte) (m : Memory) (c : Host.Cell) :
    c ∈ Memory.insert k v m ↔ c = (k, v) ∨ c ∈ m := by
  induction m with
  | nil => simp [Memory.insert]
  | cons d m ih =>
    simp only [Memory.insert]
    split
    · simp
    · simp [ih, or_left_comm]

theorem Memory.pairwise_insert (k : Nat) (v : Byte) (m : Memory)
    (hp : List.Pairwise (fun c d => c.1 < d.1) m) (hk : ∀ c ∈ m, c.1 ≠ k) :
    List.Pairwise (fun c d => c.1 < d.1) (Memory.insert k v m) := by
  induction m with
  | nil => simp [Memory.insert]
  | cons d m ih =>
    obtain ⟨hd, hm⟩ := List.pairwise_cons.mp hp
    have hdk : d.1 ≠ k := hk d (by simp)
    have hkm : ∀ c ∈ m, c.1 ≠ k := fun c hc => hk c (by simp [hc])
    simp only [Memory.insert]
    split
    · rename_i hlt
      refine List.pairwise_cons.mpr ⟨fun c hc => ?_, hp⟩
      rcases List.mem_cons.mp hc with rfl | hc
      · exact hlt
      · exact Nat.lt_trans hlt (hd c hc)
    · rename_i hlt
      refine List.pairwise_cons.mpr ⟨fun c hc => ?_, ih hm hkm⟩
      rcases (Memory.mem_insert k v m c).mp hc with rfl | hc
      · exact Nat.lt_of_le_of_ne (Nat.le_of_not_lt hlt) hdk
      · exact hd c hc

/-- Every write inside the store keeps the canonical form. -/
theorem Memory.set_wf (st : Store) (m : Memory) (k : Nat) (v : Byte) (hk : k < st.size)
    (h : Memory.wf st m) : Memory.wf st (Memory.set st m k v) := by
  obtain ⟨hp, hc⟩ := h
  have hf : List.Pairwise (fun c d => c.1 < d.1) (m.filter fun c => c.1 != k) := hp.filter _
  have hfm : ∀ c ∈ m.filter fun c => c.1 != k, c ∈ m ∧ c.1 ≠ k := by simp
  simp only [Memory.set]
  split
  · exact ⟨hf, fun c hm => hc c (hfm c hm).1⟩
  · rename_i hv
    refine ⟨Memory.pairwise_insert k v _ hf fun c hm => (hfm c hm).2, fun c hm => ?_⟩
    rcases (Memory.mem_insert k v _ c).mp hm with rfl | hm
    · exact ⟨hk, hv⟩
    · exact hc c (hfm c hm).1

theorem Memory.nil_wf (st : Store) : Memory.wf st [] := by simp [Memory.wf]

/-- `ofCells` gives a canonical memory whatever its cells are. -/
theorem Memory.ofCells_wf (st : Store) (cells : List Host.Cell) : Memory.wf st (Memory.ofCells st cells) := by
  suffices h : ∀ (cells : List Host.Cell) (m : Memory), Memory.wf st m →
      Memory.wf st (cells.foldl (fun m c => if c.1 < st.size then Memory.set st m c.1 c.2 else m) m) from
    h cells [] (Memory.nil_wf st)
  intro cells
  induction cells with
  | nil => exact fun m h => h
  | cons c cells ih =>
    intro m hm
    refine ih _ ?_
    beta_reduce
    split
    · rename_i hlt
      exact Memory.set_wf st m c.1 c.2 hlt hm
    · exact hm

end Sys2Proof.Machine
end

