-- ==== Sys2Proof/Laws/State.lean ====
section
/-! SUPPORT. What each update leaves alone and what it sets: one lemma per field per update, so that no later proof
unfolds a record update. -/

namespace Sys2Proof.Machine

/-! ## setReg -/

@[simp] theorem State.setReg_f (s : State) (r : Reg8) (v : Byte) : (s.setReg r v).f = s.f := by cases r <;> rfl
@[simp] theorem State.setReg_sp (s : State) (r : Reg8) (v : Byte) : (s.setReg r v).sp = s.sp := by cases r <;> rfl
@[simp] theorem State.setReg_pc (s : State) (r : Reg8) (v : Byte) : (s.setReg r v).pc = s.pc := by cases r <;> rfl
@[simp] theorem State.setReg_ime (s : State) (r : Reg8) (v : Byte) : (s.setReg r v).ime = s.ime := by cases r <;> rfl
@[simp] theorem State.setReg_eip (s : State) (r : Reg8) (v : Byte) : (s.setReg r v).eip = s.eip := by cases r <;> rfl
@[simp] theorem State.setReg_halted (s : State) (r : Reg8) (v : Byte) : (s.setReg r v).halted = s.halted := by cases r <;> rfl
@[simp] theorem State.setReg_fault (s : State) (r : Reg8) (v : Byte) : (s.setReg r v).fault = s.fault := by cases r <;> rfl
@[simp] theorem State.setReg_backing (s : State) (r : Reg8) (v : Byte) : (s.setReg r v).backing = s.backing := by cases r <;> rfl
@[simp] theorem State.setReg_rom (s : State) (r : Reg8) (v : Byte) : (s.setReg r v).rom = s.rom := by cases r <;> rfl
@[simp] theorem State.setReg_romBanks (s : State) (r : Reg8) (v : Byte) : (s.setReg r v).romBanks = s.romBanks := by cases r <;> rfl
@[simp] theorem State.setReg_cartRam (s : State) (r : Reg8) (v : Byte) : (s.setReg r v).cartRam = s.cartRam := by cases r <;> rfl
@[simp] theorem State.setReg_mapper (s : State) (r : Reg8) (v : Byte) : (s.setReg r v).mapper = s.mapper := by cases r <;> rfl
@[simp] theorem State.setReg_mode (s : State) (r : Reg8) (v : Byte) : (s.setReg r v).mode = s.mode := by cases r <;> rfl
@[simp] theorem State.setReg_line (s : State) (r : Reg8) (v : Byte) : (s.setReg r v).line = s.line := by cases r <;> rfl
@[simp] theorem State.setReg_cfg (s : State) (r : Reg8) (v : Byte) : (s.setReg r v).cfg = s.cfg := by cases r <;> rfl
@[simp] theorem State.setReg_returned (s : State) (r : Reg8) (v : Byte) : (s.setReg r v).returned = s.returned := by cases r <;> rfl
@[simp] theorem State.setReg_sched (s : State) (r : Reg8) (v : Byte) : (s.setReg r v).sched = s.sched := by cases r <;> rfl
@[simp] theorem State.setReg_turn (s : State) (r : Reg8) (v : Byte) : (s.setReg r v).turn = s.turn := by cases r <;> rfl

/-! ## writeF -/

@[simp] theorem State.writeF_a (s : State) (v : Byte) : (s.writeF v).a = s.a := rfl
@[simp] theorem State.writeF_b (s : State) (v : Byte) : (s.writeF v).b = s.b := rfl
@[simp] theorem State.writeF_c (s : State) (v : Byte) : (s.writeF v).c = s.c := rfl
@[simp] theorem State.writeF_d (s : State) (v : Byte) : (s.writeF v).d = s.d := rfl
@[simp] theorem State.writeF_e (s : State) (v : Byte) : (s.writeF v).e = s.e := rfl
@[simp] theorem State.writeF_h (s : State) (v : Byte) : (s.writeF v).h = s.h := rfl
@[simp] theorem State.writeF_l (s : State) (v : Byte) : (s.writeF v).l = s.l := rfl
@[simp] theorem State.writeF_sp (s : State) (v : Byte) : (s.writeF v).sp = s.sp := rfl
@[simp] theorem State.writeF_pc (s : State) (v : Byte) : (s.writeF v).pc = s.pc := rfl
@[simp] theorem State.writeF_ime (s : State) (v : Byte) : (s.writeF v).ime = s.ime := rfl
@[simp] theorem State.writeF_eip (s : State) (v : Byte) : (s.writeF v).eip = s.eip := rfl
@[simp] theorem State.writeF_halted (s : State) (v : Byte) : (s.writeF v).halted = s.halted := rfl
@[simp] theorem State.writeF_fault (s : State) (v : Byte) : (s.writeF v).fault = s.fault := rfl
@[simp] theorem State.writeF_backing (s : State) (v : Byte) : (s.writeF v).backing = s.backing := rfl
@[simp] theorem State.writeF_rom (s : State) (v : Byte) : (s.writeF v).rom = s.rom := rfl
@[simp] theorem State.writeF_romBanks (s : State) (v : Byte) : (s.writeF v).romBanks = s.romBanks := rfl
@[simp] theorem State.writeF_cartRam (s : State) (v : Byte) : (s.writeF v).cartRam = s.cartRam := rfl
@[simp] theorem State.writeF_mapper (s : State) (v : Byte) : (s.writeF v).mapper = s.mapper := rfl
@[simp] theorem State.writeF_mode (s : State) (v : Byte) : (s.writeF v).mode = s.mode := rfl
@[simp] theorem State.writeF_line (s : State) (v : Byte) : (s.writeF v).line = s.line := rfl
@[simp] theorem State.writeF_cfg (s : State) (v : Byte) : (s.writeF v).cfg = s.cfg := rfl
@[simp] theorem State.writeF_returned (s : State) (v : Byte) : (s.writeF v).returned = s.returned := rfl
@[simp] theorem State.writeF_sched (s : State) (v : Byte) : (s.writeF v).sched = s.sched := rfl
@[simp] theorem State.writeF_turn (s : State) (v : Byte) : (s.writeF v).turn = s.turn := rfl

/-! ## setFlags -/

@[simp] theorem State.setFlags_a (s : State) (z n h c : Bool) : (s.setFlags z n h c).a = s.a := rfl
@[simp] theorem State.setFlags_b (s : State) (z n h c : Bool) : (s.setFlags z n h c).b = s.b := rfl
@[simp] theorem State.setFlags_c (s : State) (z n h c : Bool) : (s.setFlags z n h c).c = s.c := rfl
@[simp] theorem State.setFlags_d (s : State) (z n h c : Bool) : (s.setFlags z n h c).d = s.d := rfl
@[simp] theorem State.setFlags_e (s : State) (z n h c : Bool) : (s.setFlags z n h c).e = s.e := rfl
@[simp] theorem State.setFlags_h (s : State) (z n h c : Bool) : (s.setFlags z n h c).h = s.h := rfl
@[simp] theorem State.setFlags_l (s : State) (z n h c : Bool) : (s.setFlags z n h c).l = s.l := rfl
@[simp] theorem State.setFlags_sp (s : State) (z n h c : Bool) : (s.setFlags z n h c).sp = s.sp := rfl
@[simp] theorem State.setFlags_pc (s : State) (z n h c : Bool) : (s.setFlags z n h c).pc = s.pc := rfl
@[simp] theorem State.setFlags_ime (s : State) (z n h c : Bool) : (s.setFlags z n h c).ime = s.ime := rfl
@[simp] theorem State.setFlags_eip (s : State) (z n h c : Bool) : (s.setFlags z n h c).eip = s.eip := rfl
@[simp] theorem State.setFlags_halted (s : State) (z n h c : Bool) : (s.setFlags z n h c).halted = s.halted := rfl
@[simp] theorem State.setFlags_fault (s : State) (z n h c : Bool) : (s.setFlags z n h c).fault = s.fault := rfl
@[simp] theorem State.setFlags_backing (s : State) (z n h c : Bool) : (s.setFlags z n h c).backing = s.backing := rfl
@[simp] theorem State.setFlags_rom (s : State) (z n h c : Bool) : (s.setFlags z n h c).rom = s.rom := rfl
@[simp] theorem State.setFlags_romBanks (s : State) (z n h c : Bool) : (s.setFlags z n h c).romBanks = s.romBanks := rfl
@[simp] theorem State.setFlags_cartRam (s : State) (z n h c : Bool) : (s.setFlags z n h c).cartRam = s.cartRam := rfl
@[simp] theorem State.setFlags_mapper (s : State) (z n h c : Bool) : (s.setFlags z n h c).mapper = s.mapper := rfl
@[simp] theorem State.setFlags_mode (s : State) (z n h c : Bool) : (s.setFlags z n h c).mode = s.mode := rfl
@[simp] theorem State.setFlags_line (s : State) (z n h c : Bool) : (s.setFlags z n h c).line = s.line := rfl
@[simp] theorem State.setFlags_cfg (s : State) (z n h c : Bool) : (s.setFlags z n h c).cfg = s.cfg := rfl
@[simp] theorem State.setFlags_returned (s : State) (z n h c : Bool) : (s.setFlags z n h c).returned = s.returned := rfl
@[simp] theorem State.setFlags_sched (s : State) (z n h c : Bool) : (s.setFlags z n h c).sched = s.sched := rfl
@[simp] theorem State.setFlags_turn (s : State) (z n h c : Bool) : (s.setFlags z n h c).turn = s.turn := rfl

/-! ## setPair -/

@[simp] theorem State.setPair_a (s : State) (p : Pair) (v : Word) : (s.setPair p v).a = s.a := by cases p <;> rfl
@[simp] theorem State.setPair_f (s : State) (p : Pair) (v : Word) : (s.setPair p v).f = s.f := by cases p <;> rfl
@[simp] theorem State.setPair_pc (s : State) (p : Pair) (v : Word) : (s.setPair p v).pc = s.pc := by cases p <;> rfl
@[simp] theorem State.setPair_ime (s : State) (p : Pair) (v : Word) : (s.setPair p v).ime = s.ime := by cases p <;> rfl
@[simp] theorem State.setPair_eip (s : State) (p : Pair) (v : Word) : (s.setPair p v).eip = s.eip := by cases p <;> rfl
@[simp] theorem State.setPair_halted (s : State) (p : Pair) (v : Word) : (s.setPair p v).halted = s.halted := by cases p <;> rfl
@[simp] theorem State.setPair_fault (s : State) (p : Pair) (v : Word) : (s.setPair p v).fault = s.fault := by cases p <;> rfl
@[simp] theorem State.setPair_backing (s : State) (p : Pair) (v : Word) : (s.setPair p v).backing = s.backing := by cases p <;> rfl
@[simp] theorem State.setPair_rom (s : State) (p : Pair) (v : Word) : (s.setPair p v).rom = s.rom := by cases p <;> rfl
@[simp] theorem State.setPair_romBanks (s : State) (p : Pair) (v : Word) : (s.setPair p v).romBanks = s.romBanks := by cases p <;> rfl
@[simp] theorem State.setPair_cartRam (s : State) (p : Pair) (v : Word) : (s.setPair p v).cartRam = s.cartRam := by cases p <;> rfl
@[simp] theorem State.setPair_mapper (s : State) (p : Pair) (v : Word) : (s.setPair p v).mapper = s.mapper := by cases p <;> rfl
@[simp] theorem State.setPair_mode (s : State) (p : Pair) (v : Word) : (s.setPair p v).mode = s.mode := by cases p <;> rfl
@[simp] theorem State.setPair_line (s : State) (p : Pair) (v : Word) : (s.setPair p v).line = s.line := by cases p <;> rfl
@[simp] theorem State.setPair_cfg (s : State) (p : Pair) (v : Word) : (s.setPair p v).cfg = s.cfg := by cases p <;> rfl
@[simp] theorem State.setPair_returned (s : State) (p : Pair) (v : Word) : (s.setPair p v).returned = s.returned := by cases p <;> rfl
@[simp] theorem State.setPair_sched (s : State) (p : Pair) (v : Word) : (s.setPair p v).sched = s.sched := by cases p <;> rfl
@[simp] theorem State.setPair_turn (s : State) (p : Pair) (v : Word) : (s.setPair p v).turn = s.turn := by cases p <;> rfl

/-! ## setStackPair -/

@[simp] theorem State.setStackPair_sp (s : State) (p : StackPair) (v : Word) : (s.setStackPair p v).sp = s.sp := by cases p <;> rfl
@[simp] theorem State.setStackPair_pc (s : State) (p : StackPair) (v : Word) : (s.setStackPair p v).pc = s.pc := by cases p <;> rfl
@[simp] theorem State.setStackPair_ime (s : State) (p : StackPair) (v : Word) : (s.setStackPair p v).ime = s.ime := by cases p <;> rfl
@[simp] theorem State.setStackPair_eip (s : State) (p : StackPair) (v : Word) : (s.setStackPair p v).eip = s.eip := by cases p <;> rfl
@[simp] theorem State.setStackPair_halted (s : State) (p : StackPair) (v : Word) : (s.setStackPair p v).halted = s.halted := by cases p <;> rfl
@[simp] theorem State.setStackPair_fault (s : State) (p : StackPair) (v : Word) : (s.setStackPair p v).fault = s.fault := by cases p <;> rfl
@[simp] theorem State.setStackPair_backing (s : State) (p : StackPair) (v : Word) : (s.setStackPair p v).backing = s.backing := by cases p <;> rfl
@[simp] theorem State.setStackPair_rom (s : State) (p : StackPair) (v : Word) : (s.setStackPair p v).rom = s.rom := by cases p <;> rfl
@[simp] theorem State.setStackPair_romBanks (s : State) (p : StackPair) (v : Word) : (s.setStackPair p v).romBanks = s.romBanks := by cases p <;> rfl
@[simp] theorem State.setStackPair_cartRam (s : State) (p : StackPair) (v : Word) : (s.setStackPair p v).cartRam = s.cartRam := by cases p <;> rfl
@[simp] theorem State.setStackPair_mapper (s : State) (p : StackPair) (v : Word) : (s.setStackPair p v).mapper = s.mapper := by cases p <;> rfl
@[simp] theorem State.setStackPair_mode (s : State) (p : StackPair) (v : Word) : (s.setStackPair p v).mode = s.mode := by cases p <;> rfl
@[simp] theorem State.setStackPair_line (s : State) (p : StackPair) (v : Word) : (s.setStackPair p v).line = s.line := by cases p <;> rfl
@[simp] theorem State.setStackPair_cfg (s : State) (p : StackPair) (v : Word) : (s.setStackPair p v).cfg = s.cfg := by cases p <;> rfl
@[simp] theorem State.setStackPair_returned (s : State) (p : StackPair) (v : Word) : (s.setStackPair p v).returned = s.returned := by cases p <;> rfl
@[simp] theorem State.setStackPair_sched (s : State) (p : StackPair) (v : Word) : (s.setStackPair p v).sched = s.sched := by cases p <;> rfl
@[simp] theorem State.setStackPair_turn (s : State) (p : StackPair) (v : Word) : (s.setStackPair p v).turn = s.turn := by cases p <;> rfl

/-! ## hlInc -/

@[simp] theorem State.hlInc_a (s : State) : (s.hlInc).a = s.a := rfl
@[simp] theorem State.hlInc_f (s : State) : (s.hlInc).f = s.f := rfl
@[simp] theorem State.hlInc_b (s : State) : (s.hlInc).b = s.b := rfl
@[simp] theorem State.hlInc_c (s : State) : (s.hlInc).c = s.c := rfl
@[simp] theorem State.hlInc_d (s : State) : (s.hlInc).d = s.d := rfl
@[simp] theorem State.hlInc_e (s : State) : (s.hlInc).e = s.e := rfl
@[simp] theorem State.hlInc_sp (s : State) : (s.hlInc).sp = s.sp := rfl
@[simp] theorem State.hlInc_pc (s : State) : (s.hlInc).pc = s.pc := rfl
@[simp] theorem State.hlInc_ime (s : State) : (s.hlInc).ime = s.ime := rfl
@[simp] theorem State.hlInc_eip (s : State) : (s.hlInc).eip = s.eip := rfl
@[simp] theorem State.hlInc_halted (s : State) : (s.hlInc).halted = s.halted := rfl
@[simp] theorem State.hlInc_fault (s : State) : (s.hlInc).fault = s.fault := rfl
@[simp] theorem State.hlInc_backing (s : State) : (s.hlInc).backing = s.backing := rfl
@[simp] theorem State.hlInc_rom (s : State) : (s.hlInc).rom = s.rom := rfl
@[simp] theorem State.hlInc_romBanks (s : State) : (s.hlInc).romBanks = s.romBanks := rfl
@[simp] theorem State.hlInc_cartRam (s : State) : (s.hlInc).cartRam = s.cartRam := rfl
@[simp] theorem State.hlInc_mapper (s : State) : (s.hlInc).mapper = s.mapper := rfl
@[simp] theorem State.hlInc_mode (s : State) : (s.hlInc).mode = s.mode := rfl
@[simp] theorem State.hlInc_line (s : State) : (s.hlInc).line = s.line := rfl
@[simp] theorem State.hlInc_cfg (s : State) : (s.hlInc).cfg = s.cfg := rfl
@[simp] theorem State.hlInc_returned (s : State) : (s.hlInc).returned = s.returned := rfl
@[simp] theorem State.hlInc_sched (s : State) : (s.hlInc).sched = s.sched := rfl
@[simp] theorem State.hlInc_turn (s : State) : (s.hlInc).turn = s.turn := rfl

/-! ## hlDec -/

@[simp] theorem State.hlDec_a (s : State) : (s.hlDec).a = s.a := rfl
@[simp] theorem State.hlDec_f (s : State) : (s.hlDec).f = s.f := rfl
@[simp] theorem State.hlDec_b (s : State) : (s.hlDec).b = s.b := rfl
@[simp] theorem State.hlDec_c (s : State) : (s.hlDec).c = s.c := rfl
@[simp] theorem State.hlDec_d (s : State) : (s.hlDec).d = s.d := rfl
@[simp] theorem State.hlDec_e (s : State) : (s.hlDec).e = s.e := rfl
@[simp] theorem State.hlDec_sp (s : State) : (s.hlDec).sp = s.sp := rfl
@[simp] theorem State.hlDec_pc (s : State) : (s.hlDec).pc = s.pc := rfl
@[simp] theorem State.hlDec_ime (s : State) : (s.hlDec).ime = s.ime := rfl
@[simp] theorem State.hlDec_eip (s : State) : (s.hlDec).eip = s.eip := rfl
@[simp] theorem State.hlDec_halted (s : State) : (s.hlDec).halted = s.halted := rfl
@[simp] theorem State.hlDec_fault (s : State) : (s.hlDec).fault = s.fault := rfl
@[simp] theorem State.hlDec_backing (s : State) : (s.hlDec).backing = s.backing := rfl
@[simp] theorem State.hlDec_rom (s : State) : (s.hlDec).rom = s.rom := rfl
@[simp] theorem State.hlDec_romBanks (s : State) : (s.hlDec).romBanks = s.romBanks := rfl
@[simp] theorem State.hlDec_cartRam (s : State) : (s.hlDec).cartRam = s.cartRam := rfl
@[simp] theorem State.hlDec_mapper (s : State) : (s.hlDec).mapper = s.mapper := rfl
@[simp] theorem State.hlDec_mode (s : State) : (s.hlDec).mode = s.mode := rfl
@[simp] theorem State.hlDec_line (s : State) : (s.hlDec).line = s.line := rfl
@[simp] theorem State.hlDec_cfg (s : State) : (s.hlDec).cfg = s.cfg := rfl
@[simp] theorem State.hlDec_returned (s : State) : (s.hlDec).returned = s.returned := rfl
@[simp] theorem State.hlDec_sched (s : State) : (s.hlDec).sched = s.sched := rfl
@[simp] theorem State.hlDec_turn (s : State) : (s.hlDec).turn = s.turn := rfl

/-! ## setDirect -/

@[simp] theorem State.setDirect_a (s : State) (k : Word) (v : Byte) : (s.setDirect k v).a = s.a := rfl
@[simp] theorem State.setDirect_f (s : State) (k : Word) (v : Byte) : (s.setDirect k v).f = s.f := rfl
@[simp] theorem State.setDirect_b (s : State) (k : Word) (v : Byte) : (s.setDirect k v).b = s.b := rfl
@[simp] theorem State.setDirect_c (s : State) (k : Word) (v : Byte) : (s.setDirect k v).c = s.c := rfl
@[simp] theorem State.setDirect_d (s : State) (k : Word) (v : Byte) : (s.setDirect k v).d = s.d := rfl
@[simp] theorem State.setDirect_e (s : State) (k : Word) (v : Byte) : (s.setDirect k v).e = s.e := rfl
@[simp] theorem State.setDirect_h (s : State) (k : Word) (v : Byte) : (s.setDirect k v).h = s.h := rfl
@[simp] theorem State.setDirect_l (s : State) (k : Word) (v : Byte) : (s.setDirect k v).l = s.l := rfl
@[simp] theorem State.setDirect_sp (s : State) (k : Word) (v : Byte) : (s.setDirect k v).sp = s.sp := rfl
@[simp] theorem State.setDirect_pc (s : State) (k : Word) (v : Byte) : (s.setDirect k v).pc = s.pc := rfl
@[simp] theorem State.setDirect_ime (s : State) (k : Word) (v : Byte) : (s.setDirect k v).ime = s.ime := rfl
@[simp] theorem State.setDirect_eip (s : State) (k : Word) (v : Byte) : (s.setDirect k v).eip = s.eip := rfl
@[simp] theorem State.setDirect_halted (s : State) (k : Word) (v : Byte) : (s.setDirect k v).halted = s.halted := rfl
@[simp] theorem State.setDirect_fault (s : State) (k : Word) (v : Byte) : (s.setDirect k v).fault = s.fault := rfl
@[simp] theorem State.setDirect_rom (s : State) (k : Word) (v : Byte) : (s.setDirect k v).rom = s.rom := rfl
@[simp] theorem State.setDirect_romBanks (s : State) (k : Word) (v : Byte) : (s.setDirect k v).romBanks = s.romBanks := rfl
@[simp] theorem State.setDirect_cartRam (s : State) (k : Word) (v : Byte) : (s.setDirect k v).cartRam = s.cartRam := rfl
@[simp] theorem State.setDirect_mapper (s : State) (k : Word) (v : Byte) : (s.setDirect k v).mapper = s.mapper := rfl
@[simp] theorem State.setDirect_mode (s : State) (k : Word) (v : Byte) : (s.setDirect k v).mode = s.mode := rfl
@[simp] theorem State.setDirect_line (s : State) (k : Word) (v : Byte) : (s.setDirect k v).line = s.line := rfl
@[simp] theorem State.setDirect_cfg (s : State) (k : Word) (v : Byte) : (s.setDirect k v).cfg = s.cfg := rfl
@[simp] theorem State.setDirect_returned (s : State) (k : Word) (v : Byte) : (s.setDirect k v).returned = s.returned := rfl
@[simp] theorem State.setDirect_sched (s : State) (k : Word) (v : Byte) : (s.setDirect k v).sched = s.sched := rfl
@[simp] theorem State.setDirect_turn (s : State) (k : Word) (v : Byte) : (s.setDirect k v).turn = s.turn := rfl

/-! ## mapperWrite -/

@[simp] theorem State.mapperWrite_a (s : State) (k : Word) (v : Byte) : (s.mapperWrite k v).a = s.a := by unfold State.mapperWrite; split <;> rfl
@[simp] theorem State.mapperWrite_f (s : State) (k : Word) (v : Byte) : (s.mapperWrite k v).f = s.f := by unfold State.mapperWrite; split <;> rfl
@[simp] theorem State.mapperWrite_b (s : State) (k : Word) (v : Byte) : (s.mapperWrite k v).b = s.b := by unfold State.mapperWrite; split <;> rfl
@[simp] theorem State.mapperWrite_c (s : State) (k : Word) (v : Byte) : (s.mapperWrite k v).c = s.c := by unfold State.mapperWrite; split <;> rfl
@[simp] theorem State.mapperWrite_d (s : State) (k : Word) (v : Byte) : (s.mapperWrite k v).d = s.d := by unfold State.mapperWrite; split <;> rfl
@[simp] theorem State.mapperWrite_e (s : State) (k : Word) (v : Byte) : (s.mapperWrite k v).e = s.e := by unfold State.mapperWrite; split <;> rfl
@[simp] theorem State.mapperWrite_h (s : State) (k : Word) (v : Byte) : (s.mapperWrite k v).h = s.h := by unfold State.mapperWrite; split <;> rfl
@[simp] theorem State.mapperWrite_l (s : State) (k : Word) (v : Byte) : (s.mapperWrite k v).l = s.l := by unfold State.mapperWrite; split <;> rfl
@[simp] theorem State.mapperWrite_sp (s : State) (k : Word) (v : Byte) : (s.mapperWrite k v).sp = s.sp := by unfold State.mapperWrite; split <;> rfl
@[simp] theorem State.mapperWrite_pc (s : State) (k : Word) (v : Byte) : (s.mapperWrite k v).pc = s.pc := by unfold State.mapperWrite; split <;> rfl
@[simp] theorem State.mapperWrite_ime (s : State) (k : Word) (v : Byte) : (s.mapperWrite k v).ime = s.ime := by unfold State.mapperWrite; split <;> rfl
@[simp] theorem State.mapperWrite_eip (s : State) (k : Word) (v : Byte) : (s.mapperWrite k v).eip = s.eip := by unfold State.mapperWrite; split <;> rfl
@[simp] theorem State.mapperWrite_halted (s : State) (k : Word) (v : Byte) : (s.mapperWrite k v).halted = s.halted := by unfold State.mapperWrite; split <;> rfl
@[simp] theorem State.mapperWrite_fault (s : State) (k : Word) (v : Byte) : (s.mapperWrite k v).fault = s.fault := by unfold State.mapperWrite; split <;> rfl
@[simp] theorem State.mapperWrite_backing (s : State) (k : Word) (v : Byte) : (s.mapperWrite k v).backing = s.backing := by unfold State.mapperWrite; split <;> rfl
@[simp] theorem State.mapperWrite_rom (s : State) (k : Word) (v : Byte) : (s.mapperWrite k v).rom = s.rom := by unfold State.mapperWrite; split <;> rfl
@[simp] theorem State.mapperWrite_romBanks (s : State) (k : Word) (v : Byte) : (s.mapperWrite k v).romBanks = s.romBanks := by unfold State.mapperWrite; split <;> rfl
@[simp] theorem State.mapperWrite_cartRam (s : State) (k : Word) (v : Byte) : (s.mapperWrite k v).cartRam = s.cartRam := by unfold State.mapperWrite; split <;> rfl
@[simp] theorem State.mapperWrite_mode (s : State) (k : Word) (v : Byte) : (s.mapperWrite k v).mode = s.mode := by unfold State.mapperWrite; split <;> rfl
@[simp] theorem State.mapperWrite_line (s : State) (k : Word) (v : Byte) : (s.mapperWrite k v).line = s.line := by unfold State.mapperWrite; split <;> rfl
@[simp] theorem State.mapperWrite_cfg (s : State) (k : Word) (v : Byte) : (s.mapperWrite k v).cfg = s.cfg := by unfold State.mapperWrite; split <;> rfl
@[simp] theorem State.mapperWrite_returned (s : State) (k : Word) (v : Byte) : (s.mapperWrite k v).returned = s.returned := by unfold State.mapperWrite; split <;> rfl
@[simp] theorem State.mapperWrite_sched (s : State) (k : Word) (v : Byte) : (s.mapperWrite k v).sched = s.sched := by unfold State.mapperWrite; split <;> rfl
@[simp] theorem State.mapperWrite_turn (s : State) (k : Word) (v : Byte) : (s.mapperWrite k v).turn = s.turn := by unfold State.mapperWrite; split <;> rfl

/-! ## cartRamWrite -/

@[simp] theorem State.cartRamWrite_a (s : State) (k : Word) (v : Byte) : (s.cartRamWrite k v).a = s.a := by
  unfold State.cartRamWrite
  split
  · rfl
  · split <;> rfl
@[simp] theorem State.cartRamWrite_f (s : State) (k : Word) (v : Byte) : (s.cartRamWrite k v).f = s.f := by
  unfold State.cartRamWrite
  split
  · rfl
  · split <;> rfl
@[simp] theorem State.cartRamWrite_b (s : State) (k : Word) (v : Byte) : (s.cartRamWrite k v).b = s.b := by
  unfold State.cartRamWrite
  split
  · rfl
  · split <;> rfl
@[simp] theorem State.cartRamWrite_c (s : State) (k : Word) (v : Byte) : (s.cartRamWrite k v).c = s.c := by
  unfold State.cartRamWrite
  split
  · rfl
  · split <;> rfl
@[simp] theorem State.cartRamWrite_d (s : State) (k : Word) (v : Byte) : (s.cartRamWrite k v).d = s.d := by
  unfold State.cartRamWrite
  split
  · rfl
  · split <;> rfl
@[simp] theorem State.cartRamWrite_e (s : State) (k : Word) (v : Byte) : (s.cartRamWrite k v).e = s.e := by
  unfold State.cartRamWrite
  split
  · rfl
  · split <;> rfl
@[simp] theorem State.cartRamWrite_h (s : State) (k : Word) (v : Byte) : (s.cartRamWrite k v).h = s.h := by
  unfold State.cartRamWrite
  split
  · rfl
  · split <;> rfl
@[simp] theorem State.cartRamWrite_l (s : State) (k : Word) (v : Byte) : (s.cartRamWrite k v).l = s.l := by
  unfold State.cartRamWrite
  split
  · rfl
  · split <;> rfl
@[simp] theorem State.cartRamWrite_sp (s : State) (k : Word) (v : Byte) : (s.cartRamWrite k v).sp = s.sp := by
  unfold State.cartRamWrite
  split
  · rfl
  · split <;> rfl
@[simp] theorem State.cartRamWrite_pc (s : State) (k : Word) (v : Byte) : (s.cartRamWrite k v).pc = s.pc := by
  unfold State.cartRamWrite
  split
  · rfl
  · split <;> rfl
@[simp] theorem State.cartRamWrite_ime (s : State) (k : Word) (v : Byte) : (s.cartRamWrite k v).ime = s.ime := by
  unfold State.cartRamWrite
  split
  · rfl
  · split <;> rfl
@[simp] theorem State.cartRamWrite_eip (s : State) (k : Word) (v : Byte) : (s.cartRamWrite k v).eip = s.eip := by
  unfold State.cartRamWrite
  split
  · rfl
  · split <;> rfl
@[simp] theorem State.cartRamWrite_halted (s : State) (k : Word) (v : Byte) : (s.cartRamWrite k v).halted = s.halted := by
  unfold State.cartRamWrite
  split
  · rfl
  · split <;> rfl
@[simp] theorem State.cartRamWrite_fault (s : State) (k : Word) (v : Byte) : (s.cartRamWrite k v).fault = s.fault := by
  unfold State.cartRamWrite
  split
  · rfl
  · split <;> rfl
@[simp] theorem State.cartRamWrite_rom (s : State) (k : Word) (v : Byte) : (s.cartRamWrite k v).rom = s.rom := by
  unfold State.cartRamWrite
  split
  · rfl
  · split <;> rfl
@[simp] theorem State.cartRamWrite_romBanks (s : State) (k : Word) (v : Byte) : (s.cartRamWrite k v).romBanks = s.romBanks := by
  unfold State.cartRamWrite
  split
  · rfl
  · split <;> rfl
@[simp] theorem State.cartRamWrite_mapper (s : State) (k : Word) (v : Byte) : (s.cartRamWrite k v).mapper = s.mapper := by
  unfold State.cartRamWrite
  split
  · rfl
  · split <;> rfl
@[simp] theorem State.cartRamWrite_mode (s : State) (k : Word) (v : Byte) : (s.cartRamWrite k v).mode = s.mode := by
  unfold State.cartRamWrite
  split
  · rfl
  · split <;> rfl
@[simp] theorem State.cartRamWrite_line (s : State) (k : Word) (v : Byte) : (s.cartRamWrite k v).line = s.line := by
  unfold State.cartRamWrite
  split
  · rfl
  · split <;> rfl
@[simp] theorem State.cartRamWrite_cfg (s : State) (k : Word) (v : Byte) : (s.cartRamWrite k v).cfg = s.cfg := by
  unfold State.cartRamWrite
  split
  · rfl
  · split <;> rfl
@[simp] theorem State.cartRamWrite_returned (s : State) (k : Word) (v : Byte) : (s.cartRamWrite k v).returned = s.returned := by
  unfold State.cartRamWrite
  split
  · rfl
  · split <;> rfl
@[simp] theorem State.cartRamWrite_sched (s : State) (k : Word) (v : Byte) : (s.cartRamWrite k v).sched = s.sched := by
  unfold State.cartRamWrite
  split
  · rfl
  · split <;> rfl
@[simp] theorem State.cartRamWrite_turn (s : State) (k : Word) (v : Byte) : (s.cartRamWrite k v).turn = s.turn := by
  unfold State.cartRamWrite
  split
  · rfl
  · split <;> rfl

/-! ## write -/

@[simp] theorem State.write_a (s : State) (k : Word) (v : Byte) : (s.write k v).a = s.a := by
  unfold State.write
  split_ifs <;> simp
@[simp] theorem State.write_f (s : State) (k : Word) (v : Byte) : (s.write k v).f = s.f := by
  unfold State.write
  split_ifs <;> simp
@[simp] theorem State.write_b (s : State) (k : Word) (v : Byte) : (s.write k v).b = s.b := by
  unfold State.write
  split_ifs <;> simp
@[simp] theorem State.write_c (s : State) (k : Word) (v : Byte) : (s.write k v).c = s.c := by
  unfold State.write
  split_ifs <;> simp
@[simp] theorem State.write_d (s : State) (k : Word) (v : Byte) : (s.write k v).d = s.d := by
  unfold State.write
  split_ifs <;> simp
@[simp] theorem State.write_e (s : State) (k : Word) (v : Byte) : (s.write k v).e = s.e := by
  unfold State.write
  split_ifs <;> simp
@[simp] theorem State.write_h (s : State) (k : Word) (v : Byte) : (s.write k v).h = s.h := by
  unfold State.write
  split_ifs <;> simp
@[simp] theorem State.write_l (s : State) (k : Word) (v : Byte) : (s.write k v).l = s.l := by
  unfold State.write
  split_ifs <;> simp
@[simp] theorem State.write_sp (s : State) (k : Word) (v : Byte) : (s.write k v).sp = s.sp := by
  unfold State.write
  split_ifs <;> simp
@[simp] theorem State.write_pc (s : State) (k : Word) (v : Byte) : (s.write k v).pc = s.pc := by
  unfold State.write
  split_ifs <;> simp
@[simp] theorem State.write_ime (s : State) (k : Word) (v : Byte) : (s.write k v).ime = s.ime := by
  unfold State.write
  split_ifs <;> simp
@[simp] theorem State.write_eip (s : State) (k : Word) (v : Byte) : (s.write k v).eip = s.eip := by
  unfold State.write
  split_ifs <;> simp
@[simp] theorem State.write_halted (s : State) (k : Word) (v : Byte) : (s.write k v).halted = s.halted := by
  unfold State.write
  split_ifs <;> simp
@[simp] theorem State.write_fault (s : State) (k : Word) (v : Byte) : (s.write k v).fault = s.fault := by
  unfold State.write
  split_ifs <;> simp
@[simp] theorem State.write_rom (s : State) (k : Word) (v : Byte) : (s.write k v).rom = s.rom := by
  unfold State.write
  split_ifs <;> simp
@[simp] theorem State.write_romBanks (s : State) (k : Word) (v : Byte) : (s.write k v).romBanks = s.romBanks := by
  unfold State.write
  split_ifs <;> simp
@[simp] theorem State.write_mode (s : State) (k : Word) (v : Byte) : (s.write k v).mode = s.mode := by
  unfold State.write
  split_ifs <;> simp
@[simp] theorem State.write_line (s : State) (k : Word) (v : Byte) : (s.write k v).line = s.line := by
  unfold State.write
  split_ifs <;> simp
@[simp] theorem State.write_cfg (s : State) (k : Word) (v : Byte) : (s.write k v).cfg = s.cfg := by
  unfold State.write
  split_ifs <;> simp
@[simp] theorem State.write_returned (s : State) (k : Word) (v : Byte) : (s.write k v).returned = s.returned := by
  unfold State.write
  split_ifs <;> simp
@[simp] theorem State.write_sched (s : State) (k : Word) (v : Byte) : (s.write k v).sched = s.sched := by
  unfold State.write
  split_ifs <;> simp
@[simp] theorem State.write_turn (s : State) (k : Word) (v : Byte) : (s.write k v).turn = s.turn := by
  unfold State.write
  split_ifs <;> simp

/-! ## write16 -/

@[simp] theorem State.write16_a (s : State) (k v : Word) : (s.write16 k v).a = s.a := by simp [State.write16]
@[simp] theorem State.write16_f (s : State) (k v : Word) : (s.write16 k v).f = s.f := by simp [State.write16]
@[simp] theorem State.write16_b (s : State) (k v : Word) : (s.write16 k v).b = s.b := by simp [State.write16]
@[simp] theorem State.write16_c (s : State) (k v : Word) : (s.write16 k v).c = s.c := by simp [State.write16]
@[simp] theorem State.write16_d (s : State) (k v : Word) : (s.write16 k v).d = s.d := by simp [State.write16]
@[simp] theorem State.write16_e (s : State) (k v : Word) : (s.write16 k v).e = s.e := by simp [State.write16]
@[simp] theorem State.write16_h (s : State) (k v : Word) : (s.write16 k v).h = s.h := by simp [State.write16]
@[simp] theorem State.write16_l (s : State) (k v : Word) : (s.write16 k v).l = s.l := by simp [State.write16]
@[simp] theorem State.write16_sp (s : State) (k v : Word) : (s.write16 k v).sp = s.sp := by simp [State.write16]
@[simp] theorem State.write16_pc (s : State) (k v : Word) : (s.write16 k v).pc = s.pc := by simp [State.write16]
@[simp] theorem State.write16_ime (s : State) (k v : Word) : (s.write16 k v).ime = s.ime := by simp [State.write16]
@[simp] theorem State.write16_eip (s : State) (k v : Word) : (s.write16 k v).eip = s.eip := by simp [State.write16]
@[simp] theorem State.write16_halted (s : State) (k v : Word) : (s.write16 k v).halted = s.halted := by simp [State.write16]
@[simp] theorem State.write16_fault (s : State) (k v : Word) : (s.write16 k v).fault = s.fault := by simp [State.write16]
@[simp] theorem State.write16_rom (s : State) (k v : Word) : (s.write16 k v).rom = s.rom := by simp [State.write16]
@[simp] theorem State.write16_romBanks (s : State) (k v : Word) : (s.write16 k v).romBanks = s.romBanks := by simp [State.write16]
@[simp] theorem State.write16_mode (s : State) (k v : Word) : (s.write16 k v).mode = s.mode := by simp [State.write16]
@[simp] theorem State.write16_line (s : State) (k v : Word) : (s.write16 k v).line = s.line := by simp [State.write16]
@[simp] theorem State.write16_cfg (s : State) (k v : Word) : (s.write16 k v).cfg = s.cfg := by simp [State.write16]
@[simp] theorem State.write16_returned (s : State) (k v : Word) : (s.write16 k v).returned = s.returned := by simp [State.write16]
@[simp] theorem State.write16_sched (s : State) (k v : Word) : (s.write16 k v).sched = s.sched := by simp [State.write16]
@[simp] theorem State.write16_turn (s : State) (k v : Word) : (s.write16 k v).turn = s.turn := by simp [State.write16]

/-! ## writeR -/

@[simp] theorem State.writeR_f (s : State) (o : Operand8) (v : Byte) : (s.writeR o v).f = s.f := by cases o <;> simp [State.writeR]
@[simp] theorem State.writeR_sp (s : State) (o : Operand8) (v : Byte) : (s.writeR o v).sp = s.sp := by cases o <;> simp [State.writeR]
@[simp] theorem State.writeR_pc (s : State) (o : Operand8) (v : Byte) : (s.writeR o v).pc = s.pc := by cases o <;> simp [State.writeR]
@[simp] theorem State.writeR_ime (s : State) (o : Operand8) (v : Byte) : (s.writeR o v).ime = s.ime := by cases o <;> simp [State.writeR]
@[simp] theorem State.writeR_eip (s : State) (o : Operand8) (v : Byte) : (s.writeR o v).eip = s.eip := by cases o <;> simp [State.writeR]
@[simp] theorem State.writeR_halted (s : State) (o : Operand8) (v : Byte) : (s.writeR o v).halted = s.halted := by cases o <;> simp [State.writeR]
@[simp] theorem State.writeR_fault (s : State) (o : Operand8) (v : Byte) : (s.writeR o v).fault = s.fault := by cases o <;> simp [State.writeR]
@[simp] theorem State.writeR_rom (s : State) (o : Operand8) (v : Byte) : (s.writeR o v).rom = s.rom := by cases o <;> simp [State.writeR]
@[simp] theorem State.writeR_romBanks (s : State) (o : Operand8) (v : Byte) : (s.writeR o v).romBanks = s.romBanks := by cases o <;> simp [State.writeR]
@[simp] theorem State.writeR_mode (s : State) (o : Operand8) (v : Byte) : (s.writeR o v).mode = s.mode := by cases o <;> simp [State.writeR]
@[simp] theorem State.writeR_line (s : State) (o : Operand8) (v : Byte) : (s.writeR o v).line = s.line := by cases o <;> simp [State.writeR]
@[simp] theorem State.writeR_cfg (s : State) (o : Operand8) (v : Byte) : (s.writeR o v).cfg = s.cfg := by cases o <;> simp [State.writeR]
@[simp] theorem State.writeR_returned (s : State) (o : Operand8) (v : Byte) : (s.writeR o v).returned = s.returned := by cases o <;> simp [State.writeR]
@[simp] theorem State.writeR_sched (s : State) (o : Operand8) (v : Byte) : (s.writeR o v).sched = s.sched := by cases o <;> simp [State.writeR]
@[simp] theorem State.writeR_turn (s : State) (o : Operand8) (v : Byte) : (s.writeR o v).turn = s.turn := by cases o <;> simp [State.writeR]

/-! ## push16 -/

@[simp] theorem State.push16_a (s : State) (v : Word) : (s.push16 v).a = s.a := by simp [State.push16]
@[simp] theorem State.push16_f (s : State) (v : Word) : (s.push16 v).f = s.f := by simp [State.push16]
@[simp] theorem State.push16_b (s : State) (v : Word) : (s.push16 v).b = s.b := by simp [State.push16]
@[simp] theorem State.push16_c (s : State) (v : Word) : (s.push16 v).c = s.c := by simp [State.push16]
@[simp] theorem State.push16_d (s : State) (v : Word) : (s.push16 v).d = s.d := by simp [State.push16]
@[simp] theorem State.push16_e (s : State) (v : Word) : (s.push16 v).e = s.e := by simp [State.push16]
@[simp] theorem State.push16_h (s : State) (v : Word) : (s.push16 v).h = s.h := by simp [State.push16]
@[simp] theorem State.push16_l (s : State) (v : Word) : (s.push16 v).l = s.l := by simp [State.push16]
@[simp] theorem State.push16_pc (s : State) (v : Word) : (s.push16 v).pc = s.pc := by simp [State.push16]
@[simp] theorem State.push16_ime (s : State) (v : Word) : (s.push16 v).ime = s.ime := by simp [State.push16]
@[simp] theorem State.push16_eip (s : State) (v : Word) : (s.push16 v).eip = s.eip := by simp [State.push16]
@[simp] theorem State.push16_halted (s : State) (v : Word) : (s.push16 v).halted = s.halted := by simp [State.push16]
@[simp] theorem State.push16_fault (s : State) (v : Word) : (s.push16 v).fault = s.fault := by simp [State.push16]
@[simp] theorem State.push16_rom (s : State) (v : Word) : (s.push16 v).rom = s.rom := by simp [State.push16]
@[simp] theorem State.push16_romBanks (s : State) (v : Word) : (s.push16 v).romBanks = s.romBanks := by simp [State.push16]
@[simp] theorem State.push16_mode (s : State) (v : Word) : (s.push16 v).mode = s.mode := by simp [State.push16]
@[simp] theorem State.push16_line (s : State) (v : Word) : (s.push16 v).line = s.line := by simp [State.push16]
@[simp] theorem State.push16_cfg (s : State) (v : Word) : (s.push16 v).cfg = s.cfg := by simp [State.push16]
@[simp] theorem State.push16_returned (s : State) (v : Word) : (s.push16 v).returned = s.returned := by simp [State.push16]
@[simp] theorem State.push16_sched (s : State) (v : Word) : (s.push16 v).sched = s.sched := by simp [State.push16]
@[simp] theorem State.push16_turn (s : State) (v : Word) : (s.push16 v).turn = s.turn := by simp [State.push16]

/-! ## popSp -/

@[simp] theorem State.popSp_a (s : State) : (s.popSp).a = s.a := rfl
@[simp] theorem State.popSp_f (s : State) : (s.popSp).f = s.f := rfl
@[simp] theorem State.popSp_b (s : State) : (s.popSp).b = s.b := rfl
@[simp] theorem State.popSp_c (s : State) : (s.popSp).c = s.c := rfl
@[simp] theorem State.popSp_d (s : State) : (s.popSp).d = s.d := rfl
@[simp] theorem State.popSp_e (s : State) : (s.popSp).e = s.e := rfl
@[simp] theorem State.popSp_h (s : State) : (s.popSp).h = s.h := rfl
@[simp] theorem State.popSp_l (s : State) : (s.popSp).l = s.l := rfl
@[simp] theorem State.popSp_pc (s : State) : (s.popSp).pc = s.pc := rfl
@[simp] theorem State.popSp_ime (s : State) : (s.popSp).ime = s.ime := rfl
@[simp] theorem State.popSp_eip (s : State) : (s.popSp).eip = s.eip := rfl
@[simp] theorem State.popSp_halted (s : State) : (s.popSp).halted = s.halted := rfl
@[simp] theorem State.popSp_fault (s : State) : (s.popSp).fault = s.fault := rfl
@[simp] theorem State.popSp_backing (s : State) : (s.popSp).backing = s.backing := rfl
@[simp] theorem State.popSp_rom (s : State) : (s.popSp).rom = s.rom := rfl
@[simp] theorem State.popSp_romBanks (s : State) : (s.popSp).romBanks = s.romBanks := rfl
@[simp] theorem State.popSp_cartRam (s : State) : (s.popSp).cartRam = s.cartRam := rfl
@[simp] theorem State.popSp_mapper (s : State) : (s.popSp).mapper = s.mapper := rfl
@[simp] theorem State.popSp_mode (s : State) : (s.popSp).mode = s.mode := rfl
@[simp] theorem State.popSp_line (s : State) : (s.popSp).line = s.line := rfl
@[simp] theorem State.popSp_cfg (s : State) : (s.popSp).cfg = s.cfg := rfl
@[simp] theorem State.popSp_returned (s : State) : (s.popSp).returned = s.returned := rfl
@[simp] theorem State.popSp_sched (s : State) : (s.popSp).sched = s.sched := rfl
@[simp] theorem State.popSp_turn (s : State) : (s.popSp).turn = s.turn := rfl

/-! ## raiseFatal -/

@[simp] theorem State.raiseFatal_a (s : State) (info : FatalInfo) : (s.raiseFatal info).a = s.a := rfl
@[simp] theorem State.raiseFatal_f (s : State) (info : FatalInfo) : (s.raiseFatal info).f = s.f := rfl
@[simp] theorem State.raiseFatal_b (s : State) (info : FatalInfo) : (s.raiseFatal info).b = s.b := rfl
@[simp] theorem State.raiseFatal_c (s : State) (info : FatalInfo) : (s.raiseFatal info).c = s.c := rfl
@[simp] theorem State.raiseFatal_d (s : State) (info : FatalInfo) : (s.raiseFatal info).d = s.d := rfl
@[simp] theorem State.raiseFatal_e (s : State) (info : FatalInfo) : (s.raiseFatal info).e = s.e := rfl
@[simp] theorem State.raiseFatal_h (s : State) (info : FatalInfo) : (s.raiseFatal info).h = s.h := rfl
@[simp] theorem State.raiseFatal_l (s : State) (info : FatalInfo) : (s.raiseFatal info).l = s.l := rfl
@[simp] theorem State.raiseFatal_sp (s : State) (info : FatalInfo) : (s.raiseFatal info).sp = s.sp := rfl
@[simp] theorem State.raiseFatal_pc (s : State) (info : FatalInfo) : (s.raiseFatal info).pc = s.pc := rfl
@[simp] theorem State.raiseFatal_ime (s : State) (info : FatalInfo) : (s.raiseFatal info).ime = s.ime := rfl
@[simp] theorem State.raiseFatal_eip (s : State) (info : FatalInfo) : (s.raiseFatal info).eip = s.eip := rfl
@[simp] theorem State.raiseFatal_halted (s : State) (info : FatalInfo) : (s.raiseFatal info).halted = s.halted := rfl
@[simp] theorem State.raiseFatal_backing (s : State) (info : FatalInfo) : (s.raiseFatal info).backing = s.backing := rfl
@[simp] theorem State.raiseFatal_rom (s : State) (info : FatalInfo) : (s.raiseFatal info).rom = s.rom := rfl
@[simp] theorem State.raiseFatal_romBanks (s : State) (info : FatalInfo) : (s.raiseFatal info).romBanks = s.romBanks := rfl
@[simp] theorem State.raiseFatal_cartRam (s : State) (info : FatalInfo) : (s.raiseFatal info).cartRam = s.cartRam := rfl
@[simp] theorem State.raiseFatal_mapper (s : State) (info : FatalInfo) : (s.raiseFatal info).mapper = s.mapper := rfl
@[simp] theorem State.raiseFatal_mode (s : State) (info : FatalInfo) : (s.raiseFatal info).mode = s.mode := rfl
@[simp] theorem State.raiseFatal_line (s : State) (info : FatalInfo) : (s.raiseFatal info).line = s.line := rfl
@[simp] theorem State.raiseFatal_cfg (s : State) (info : FatalInfo) : (s.raiseFatal info).cfg = s.cfg := rfl
@[simp] theorem State.raiseFatal_sched (s : State) (info : FatalInfo) : (s.raiseFatal info).sched = s.sched := rfl
@[simp] theorem State.raiseFatal_turn (s : State) (info : FatalInfo) : (s.raiseFatal info).turn = s.turn := rfl

/-! ## dispatch -/

@[simp] theorem State.dispatch_a (s : State) (k : IntSource) : (s.dispatch k).a = s.a := by simp [State.dispatch]
@[simp] theorem State.dispatch_f (s : State) (k : IntSource) : (s.dispatch k).f = s.f := by simp [State.dispatch]
@[simp] theorem State.dispatch_b (s : State) (k : IntSource) : (s.dispatch k).b = s.b := by simp [State.dispatch]
@[simp] theorem State.dispatch_c (s : State) (k : IntSource) : (s.dispatch k).c = s.c := by simp [State.dispatch]
@[simp] theorem State.dispatch_d (s : State) (k : IntSource) : (s.dispatch k).d = s.d := by simp [State.dispatch]
@[simp] theorem State.dispatch_e (s : State) (k : IntSource) : (s.dispatch k).e = s.e := by simp [State.dispatch]
@[simp] theorem State.dispatch_h (s : State) (k : IntSource) : (s.dispatch k).h = s.h := by simp [State.dispatch]
@[simp] theorem State.dispatch_l (s : State) (k : IntSource) : (s.dispatch k).l = s.l := by simp [State.dispatch]
@[simp] theorem State.dispatch_eip (s : State) (k : IntSource) : (s.dispatch k).eip = s.eip := by simp [State.dispatch]
@[simp] theorem State.dispatch_fault (s : State) (k : IntSource) : (s.dispatch k).fault = s.fault := by simp [State.dispatch]
@[simp] theorem State.dispatch_rom (s : State) (k : IntSource) : (s.dispatch k).rom = s.rom := by simp [State.dispatch]
@[simp] theorem State.dispatch_romBanks (s : State) (k : IntSource) : (s.dispatch k).romBanks = s.romBanks := by simp [State.dispatch]
@[simp] theorem State.dispatch_mode (s : State) (k : IntSource) : (s.dispatch k).mode = s.mode := by simp [State.dispatch]
@[simp] theorem State.dispatch_line (s : State) (k : IntSource) : (s.dispatch k).line = s.line := by simp [State.dispatch]
@[simp] theorem State.dispatch_cfg (s : State) (k : IntSource) : (s.dispatch k).cfg = s.cfg := by simp [State.dispatch]
@[simp] theorem State.dispatch_returned (s : State) (k : IntSource) : (s.dispatch k).returned = s.returned := by simp [State.dispatch]
@[simp] theorem State.dispatch_sched (s : State) (k : IntSource) : (s.dispatch k).sched = s.sched := by simp [State.dispatch]
@[simp] theorem State.dispatch_turn (s : State) (k : IntSource) : (s.dispatch k).turn = s.turn := by simp [State.dispatch]

/-! ## commitEi -/

@[simp] theorem State.commitEi_a (s : State) : (s.commitEi).a = s.a := by unfold State.commitEi; split <;> rfl
@[simp] theorem State.commitEi_f (s : State) : (s.commitEi).f = s.f := by unfold State.commitEi; split <;> rfl
@[simp] theorem State.commitEi_b (s : State) : (s.commitEi).b = s.b := by unfold State.commitEi; split <;> rfl
@[simp] theorem State.commitEi_c (s : State) : (s.commitEi).c = s.c := by unfold State.commitEi; split <;> rfl
@[simp] theorem State.commitEi_d (s : State) : (s.commitEi).d = s.d := by unfold State.commitEi; split <;> rfl
@[simp] theorem State.commitEi_e (s : State) : (s.commitEi).e = s.e := by unfold State.commitEi; split <;> rfl
@[simp] theorem State.commitEi_h (s : State) : (s.commitEi).h = s.h := by unfold State.commitEi; split <;> rfl
@[simp] theorem State.commitEi_l (s : State) : (s.commitEi).l = s.l := by unfold State.commitEi; split <;> rfl
@[simp] theorem State.commitEi_sp (s : State) : (s.commitEi).sp = s.sp := by unfold State.commitEi; split <;> rfl
@[simp] theorem State.commitEi_pc (s : State) : (s.commitEi).pc = s.pc := by unfold State.commitEi; split <;> rfl
@[simp] theorem State.commitEi_halted (s : State) : (s.commitEi).halted = s.halted := by unfold State.commitEi; split <;> rfl
@[simp] theorem State.commitEi_fault (s : State) : (s.commitEi).fault = s.fault := by unfold State.commitEi; split <;> rfl
@[simp] theorem State.commitEi_backing (s : State) : (s.commitEi).backing = s.backing := by unfold State.commitEi; split <;> rfl
@[simp] theorem State.commitEi_rom (s : State) : (s.commitEi).rom = s.rom := by unfold State.commitEi; split <;> rfl
@[simp] theorem State.commitEi_romBanks (s : State) : (s.commitEi).romBanks = s.romBanks := by unfold State.commitEi; split <;> rfl
@[simp] theorem State.commitEi_cartRam (s : State) : (s.commitEi).cartRam = s.cartRam := by unfold State.commitEi; split <;> rfl
@[simp] theorem State.commitEi_mapper (s : State) : (s.commitEi).mapper = s.mapper := by unfold State.commitEi; split <;> rfl
@[simp] theorem State.commitEi_mode (s : State) : (s.commitEi).mode = s.mode := by unfold State.commitEi; split <;> rfl
@[simp] theorem State.commitEi_line (s : State) : (s.commitEi).line = s.line := by unfold State.commitEi; split <;> rfl
@[simp] theorem State.commitEi_cfg (s : State) : (s.commitEi).cfg = s.cfg := by unfold State.commitEi; split <;> rfl
@[simp] theorem State.commitEi_returned (s : State) : (s.commitEi).returned = s.returned := by unfold State.commitEi; split <;> rfl
@[simp] theorem State.commitEi_sched (s : State) : (s.commitEi).sched = s.sched := by unfold State.commitEi; split <;> rfl
@[simp] theorem State.commitEi_turn (s : State) : (s.commitEi).turn = s.turn := by unfold State.commitEi; split <;> rfl

/-! ## returnFromInterrupt -/

@[simp] theorem State.returnFromInterrupt_a (s : State) : (s.returnFromInterrupt).a = s.a := by
  unfold State.returnFromInterrupt
  dsimp only
  split <;> rfl
@[simp] theorem State.returnFromInterrupt_f (s : State) : (s.returnFromInterrupt).f = s.f := by
  unfold State.returnFromInterrupt
  dsimp only
  split <;> rfl
@[simp] theorem State.returnFromInterrupt_b (s : State) : (s.returnFromInterrupt).b = s.b := by
  unfold State.returnFromInterrupt
  dsimp only
  split <;> rfl
@[simp] theorem State.returnFromInterrupt_c (s : State) : (s.returnFromInterrupt).c = s.c := by
  unfold State.returnFromInterrupt
  dsimp only
  split <;> rfl
@[simp] theorem State.returnFromInterrupt_d (s : State) : (s.returnFromInterrupt).d = s.d := by
  unfold State.returnFromInterrupt
  dsimp only
  split <;> rfl
@[simp] theorem State.returnFromInterrupt_e (s : State) : (s.returnFromInterrupt).e = s.e := by
  unfold State.returnFromInterrupt
  dsimp only
  split <;> rfl
@[simp] theorem State.returnFromInterrupt_h (s : State) : (s.returnFromInterrupt).h = s.h := by
  unfold State.returnFromInterrupt
  dsimp only
  split <;> rfl
@[simp] theorem State.returnFromInterrupt_l (s : State) : (s.returnFromInterrupt).l = s.l := by
  unfold State.returnFromInterrupt
  dsimp only
  split <;> rfl
@[simp] theorem State.returnFromInterrupt_halted (s : State) : (s.returnFromInterrupt).halted = s.halted := by
  unfold State.returnFromInterrupt
  dsimp only
  split <;> rfl
@[simp] theorem State.returnFromInterrupt_fault (s : State) : (s.returnFromInterrupt).fault = s.fault := by
  unfold State.returnFromInterrupt
  dsimp only
  split <;> rfl
@[simp] theorem State.returnFromInterrupt_backing (s : State) : (s.returnFromInterrupt).backing = s.backing := by
  unfold State.returnFromInterrupt
  dsimp only
  split <;> rfl
@[simp] theorem State.returnFromInterrupt_rom (s : State) : (s.returnFromInterrupt).rom = s.rom := by
  unfold State.returnFromInterrupt
  dsimp only
  split <;> rfl
@[simp] theorem State.returnFromInterrupt_romBanks (s : State) : (s.returnFromInterrupt).romBanks = s.romBanks := by
  unfold State.returnFromInterrupt
  dsimp only
  split <;> rfl
@[simp] theorem State.returnFromInterrupt_cartRam (s : State) : (s.returnFromInterrupt).cartRam = s.cartRam := by
  unfold State.returnFromInterrupt
  dsimp only
  split <;> rfl
@[simp] theorem State.returnFromInterrupt_mapper (s : State) : (s.returnFromInterrupt).mapper = s.mapper := by
  unfold State.returnFromInterrupt
  dsimp only
  split <;> rfl
@[simp] theorem State.returnFromInterrupt_mode (s : State) : (s.returnFromInterrupt).mode = s.mode := by
  unfold State.returnFromInterrupt
  dsimp only
  split <;> rfl
@[simp] theorem State.returnFromInterrupt_line (s : State) : (s.returnFromInterrupt).line = s.line := by
  unfold State.returnFromInterrupt
  dsimp only
  split <;> rfl
@[simp] theorem State.returnFromInterrupt_cfg (s : State) : (s.returnFromInterrupt).cfg = s.cfg := by
  unfold State.returnFromInterrupt
  dsimp only
  split <;> rfl
@[simp] theorem State.returnFromInterrupt_returned (s : State) : (s.returnFromInterrupt).returned = s.returned := by
  unfold State.returnFromInterrupt
  dsimp only
  split <;> rfl
@[simp] theorem State.returnFromInterrupt_sched (s : State) : (s.returnFromInterrupt).sched = s.sched := by
  unfold State.returnFromInterrupt
  dsimp only
  split <;> rfl
@[simp] theorem State.returnFromInterrupt_turn (s : State) : (s.returnFromInterrupt).turn = s.turn := by
  unfold State.returnFromInterrupt
  dsimp only
  split <;> rfl

/-! ## advance -/

@[simp] theorem State.advance_a (s : State) (n : Nat) : (s.advance n).a = s.a := rfl
@[simp] theorem State.advance_f (s : State) (n : Nat) : (s.advance n).f = s.f := rfl
@[simp] theorem State.advance_b (s : State) (n : Nat) : (s.advance n).b = s.b := rfl
@[simp] theorem State.advance_c (s : State) (n : Nat) : (s.advance n).c = s.c := rfl
@[simp] theorem State.advance_d (s : State) (n : Nat) : (s.advance n).d = s.d := rfl
@[simp] theorem State.advance_e (s : State) (n : Nat) : (s.advance n).e = s.e := rfl
@[simp] theorem State.advance_h (s : State) (n : Nat) : (s.advance n).h = s.h := rfl
@[simp] theorem State.advance_l (s : State) (n : Nat) : (s.advance n).l = s.l := rfl
@[simp] theorem State.advance_sp (s : State) (n : Nat) : (s.advance n).sp = s.sp := rfl
@[simp] theorem State.advance_ime (s : State) (n : Nat) : (s.advance n).ime = s.ime := rfl
@[simp] theorem State.advance_eip (s : State) (n : Nat) : (s.advance n).eip = s.eip := rfl
@[simp] theorem State.advance_halted (s : State) (n : Nat) : (s.advance n).halted = s.halted := rfl
@[simp] theorem State.advance_fault (s : State) (n : Nat) : (s.advance n).fault = s.fault := rfl
@[simp] theorem State.advance_backing (s : State) (n : Nat) : (s.advance n).backing = s.backing := rfl
@[simp] theorem State.advance_rom (s : State) (n : Nat) : (s.advance n).rom = s.rom := rfl
@[simp] theorem State.advance_romBanks (s : State) (n : Nat) : (s.advance n).romBanks = s.romBanks := rfl
@[simp] theorem State.advance_cartRam (s : State) (n : Nat) : (s.advance n).cartRam = s.cartRam := rfl
@[simp] theorem State.advance_mapper (s : State) (n : Nat) : (s.advance n).mapper = s.mapper := rfl
@[simp] theorem State.advance_mode (s : State) (n : Nat) : (s.advance n).mode = s.mode := rfl
@[simp] theorem State.advance_line (s : State) (n : Nat) : (s.advance n).line = s.line := rfl
@[simp] theorem State.advance_cfg (s : State) (n : Nat) : (s.advance n).cfg = s.cfg := rfl
@[simp] theorem State.advance_returned (s : State) (n : Nat) : (s.advance n).returned = s.returned := rfl
@[simp] theorem State.advance_sched (s : State) (n : Nat) : (s.advance n).sched = s.sched := rfl
@[simp] theorem State.advance_turn (s : State) (n : Nat) : (s.advance n).turn = s.turn := rfl

/-! ## usedChoice -/

@[simp] theorem State.usedChoice_a (s : State) : (s.usedChoice).a = s.a := by unfold State.usedChoice; split <;> rfl
@[simp] theorem State.usedChoice_f (s : State) : (s.usedChoice).f = s.f := by unfold State.usedChoice; split <;> rfl
@[simp] theorem State.usedChoice_b (s : State) : (s.usedChoice).b = s.b := by unfold State.usedChoice; split <;> rfl
@[simp] theorem State.usedChoice_c (s : State) : (s.usedChoice).c = s.c := by unfold State.usedChoice; split <;> rfl
@[simp] theorem State.usedChoice_d (s : State) : (s.usedChoice).d = s.d := by unfold State.usedChoice; split <;> rfl
@[simp] theorem State.usedChoice_e (s : State) : (s.usedChoice).e = s.e := by unfold State.usedChoice; split <;> rfl
@[simp] theorem State.usedChoice_h (s : State) : (s.usedChoice).h = s.h := by unfold State.usedChoice; split <;> rfl
@[simp] theorem State.usedChoice_l (s : State) : (s.usedChoice).l = s.l := by unfold State.usedChoice; split <;> rfl
@[simp] theorem State.usedChoice_sp (s : State) : (s.usedChoice).sp = s.sp := by unfold State.usedChoice; split <;> rfl
@[simp] theorem State.usedChoice_pc (s : State) : (s.usedChoice).pc = s.pc := by unfold State.usedChoice; split <;> rfl
@[simp] theorem State.usedChoice_ime (s : State) : (s.usedChoice).ime = s.ime := by unfold State.usedChoice; split <;> rfl
@[simp] theorem State.usedChoice_eip (s : State) : (s.usedChoice).eip = s.eip := by unfold State.usedChoice; split <;> rfl
@[simp] theorem State.usedChoice_halted (s : State) : (s.usedChoice).halted = s.halted := by unfold State.usedChoice; split <;> rfl
@[simp] theorem State.usedChoice_fault (s : State) : (s.usedChoice).fault = s.fault := by unfold State.usedChoice; split <;> rfl
@[simp] theorem State.usedChoice_backing (s : State) : (s.usedChoice).backing = s.backing := by unfold State.usedChoice; split <;> rfl
@[simp] theorem State.usedChoice_rom (s : State) : (s.usedChoice).rom = s.rom := by unfold State.usedChoice; split <;> rfl
@[simp] theorem State.usedChoice_romBanks (s : State) : (s.usedChoice).romBanks = s.romBanks := by unfold State.usedChoice; split <;> rfl
@[simp] theorem State.usedChoice_cartRam (s : State) : (s.usedChoice).cartRam = s.cartRam := by unfold State.usedChoice; split <;> rfl
@[simp] theorem State.usedChoice_mapper (s : State) : (s.usedChoice).mapper = s.mapper := by unfold State.usedChoice; split <;> rfl
@[simp] theorem State.usedChoice_mode (s : State) : (s.usedChoice).mode = s.mode := by unfold State.usedChoice; split <;> rfl
@[simp] theorem State.usedChoice_line (s : State) : (s.usedChoice).line = s.line := by unfold State.usedChoice; split <;> rfl
@[simp] theorem State.usedChoice_cfg (s : State) : (s.usedChoice).cfg = s.cfg := by unfold State.usedChoice; split <;> rfl
@[simp] theorem State.usedChoice_returned (s : State) : (s.usedChoice).returned = s.returned := by unfold State.usedChoice; split <;> rfl

/-! ## enterMode -/

@[simp] theorem State.enterMode_a (s : State) (m : PpuMode) : (s.enterMode m).a = s.a := rfl
@[simp] theorem State.enterMode_f (s : State) (m : PpuMode) : (s.enterMode m).f = s.f := rfl
@[simp] theorem State.enterMode_b (s : State) (m : PpuMode) : (s.enterMode m).b = s.b := rfl
@[simp] theorem State.enterMode_c (s : State) (m : PpuMode) : (s.enterMode m).c = s.c := rfl
@[simp] theorem State.enterMode_d (s : State) (m : PpuMode) : (s.enterMode m).d = s.d := rfl
@[simp] theorem State.enterMode_e (s : State) (m : PpuMode) : (s.enterMode m).e = s.e := rfl
@[simp] theorem State.enterMode_h (s : State) (m : PpuMode) : (s.enterMode m).h = s.h := rfl
@[simp] theorem State.enterMode_l (s : State) (m : PpuMode) : (s.enterMode m).l = s.l := rfl
@[simp] theorem State.enterMode_sp (s : State) (m : PpuMode) : (s.enterMode m).sp = s.sp := rfl
@[simp] theorem State.enterMode_pc (s : State) (m : PpuMode) : (s.enterMode m).pc = s.pc := rfl
@[simp] theorem State.enterMode_ime (s : State) (m : PpuMode) : (s.enterMode m).ime = s.ime := rfl
@[simp] theorem State.enterMode_eip (s : State) (m : PpuMode) : (s.enterMode m).eip = s.eip := rfl
@[simp] theorem State.enterMode_halted (s : State) (m : PpuMode) : (s.enterMode m).halted = s.halted := rfl
@[simp] theorem State.enterMode_fault (s : State) (m : PpuMode) : (s.enterMode m).fault = s.fault := rfl
@[simp] theorem State.enterMode_rom (s : State) (m : PpuMode) : (s.enterMode m).rom = s.rom := rfl
@[simp] theorem State.enterMode_romBanks (s : State) (m : PpuMode) : (s.enterMode m).romBanks = s.romBanks := rfl
@[simp] theorem State.enterMode_cartRam (s : State) (m : PpuMode) : (s.enterMode m).cartRam = s.cartRam := rfl
@[simp] theorem State.enterMode_mapper (s : State) (m : PpuMode) : (s.enterMode m).mapper = s.mapper := rfl
@[simp] theorem State.enterMode_line (s : State) (m : PpuMode) : (s.enterMode m).line = s.line := rfl
@[simp] theorem State.enterMode_cfg (s : State) (m : PpuMode) : (s.enterMode m).cfg = s.cfg := rfl
@[simp] theorem State.enterMode_returned (s : State) (m : PpuMode) : (s.enterMode m).returned = s.returned := rfl
@[simp] theorem State.enterMode_sched (s : State) (m : PpuMode) : (s.enterMode m).sched = s.sched := rfl
@[simp] theorem State.enterMode_turn (s : State) (m : PpuMode) : (s.enterMode m).turn = s.turn := rfl

/-! ## enterLine -/

@[simp] theorem State.enterLine_a (s : State) (n : Nat) : (s.enterLine n).a = s.a := rfl
@[simp] theorem State.enterLine_f (s : State) (n : Nat) : (s.enterLine n).f = s.f := rfl
@[simp] theorem State.enterLine_b (s : State) (n : Nat) : (s.enterLine n).b = s.b := rfl
@[simp] theorem State.enterLine_c (s : State) (n : Nat) : (s.enterLine n).c = s.c := rfl
@[simp] theorem State.enterLine_d (s : State) (n : Nat) : (s.enterLine n).d = s.d := rfl
@[simp] theorem State.enterLine_e (s : State) (n : Nat) : (s.enterLine n).e = s.e := rfl
@[simp] theorem State.enterLine_h (s : State) (n : Nat) : (s.enterLine n).h = s.h := rfl
@[simp] theorem State.enterLine_l (s : State) (n : Nat) : (s.enterLine n).l = s.l := rfl
@[simp] theorem State.enterLine_sp (s : State) (n : Nat) : (s.enterLine n).sp = s.sp := rfl
@[simp] theorem State.enterLine_pc (s : State) (n : Nat) : (s.enterLine n).pc = s.pc := rfl
@[simp] theorem State.enterLine_ime (s : State) (n : Nat) : (s.enterLine n).ime = s.ime := rfl
@[simp] theorem State.enterLine_eip (s : State) (n : Nat) : (s.enterLine n).eip = s.eip := rfl
@[simp] theorem State.enterLine_halted (s : State) (n : Nat) : (s.enterLine n).halted = s.halted := rfl
@[simp] theorem State.enterLine_fault (s : State) (n : Nat) : (s.enterLine n).fault = s.fault := rfl
@[simp] theorem State.enterLine_rom (s : State) (n : Nat) : (s.enterLine n).rom = s.rom := rfl
@[simp] theorem State.enterLine_romBanks (s : State) (n : Nat) : (s.enterLine n).romBanks = s.romBanks := rfl
@[simp] theorem State.enterLine_cartRam (s : State) (n : Nat) : (s.enterLine n).cartRam = s.cartRam := rfl
@[simp] theorem State.enterLine_mapper (s : State) (n : Nat) : (s.enterLine n).mapper = s.mapper := rfl
@[simp] theorem State.enterLine_mode (s : State) (n : Nat) : (s.enterLine n).mode = s.mode := rfl
@[simp] theorem State.enterLine_cfg (s : State) (n : Nat) : (s.enterLine n).cfg = s.cfg := rfl
@[simp] theorem State.enterLine_returned (s : State) (n : Nat) : (s.enterLine n).returned = s.returned := rfl
@[simp] theorem State.enterLine_sched (s : State) (n : Nat) : (s.enterLine n).sched = s.sched := rfl
@[simp] theorem State.enterLine_turn (s : State) (n : Nat) : (s.enterLine n).turn = s.turn := rfl

/-! ## requestVBlank -/

@[simp] theorem State.requestVBlank_a (s : State) : (s.requestVBlank).a = s.a := rfl
@[simp] theorem State.requestVBlank_f (s : State) : (s.requestVBlank).f = s.f := rfl
@[simp] theorem State.requestVBlank_b (s : State) : (s.requestVBlank).b = s.b := rfl
@[simp] theorem State.requestVBlank_c (s : State) : (s.requestVBlank).c = s.c := rfl
@[simp] theorem State.requestVBlank_d (s : State) : (s.requestVBlank).d = s.d := rfl
@[simp] theorem State.requestVBlank_e (s : State) : (s.requestVBlank).e = s.e := rfl
@[simp] theorem State.requestVBlank_h (s : State) : (s.requestVBlank).h = s.h := rfl
@[simp] theorem State.requestVBlank_l (s : State) : (s.requestVBlank).l = s.l := rfl
@[simp] theorem State.requestVBlank_sp (s : State) : (s.requestVBlank).sp = s.sp := rfl
@[simp] theorem State.requestVBlank_pc (s : State) : (s.requestVBlank).pc = s.pc := rfl
@[simp] theorem State.requestVBlank_ime (s : State) : (s.requestVBlank).ime = s.ime := rfl
@[simp] theorem State.requestVBlank_eip (s : State) : (s.requestVBlank).eip = s.eip := rfl
@[simp] theorem State.requestVBlank_halted (s : State) : (s.requestVBlank).halted = s.halted := rfl
@[simp] theorem State.requestVBlank_fault (s : State) : (s.requestVBlank).fault = s.fault := rfl
@[simp] theorem State.requestVBlank_rom (s : State) : (s.requestVBlank).rom = s.rom := rfl
@[simp] theorem State.requestVBlank_romBanks (s : State) : (s.requestVBlank).romBanks = s.romBanks := rfl
@[simp] theorem State.requestVBlank_cartRam (s : State) : (s.requestVBlank).cartRam = s.cartRam := rfl
@[simp] theorem State.requestVBlank_mapper (s : State) : (s.requestVBlank).mapper = s.mapper := rfl
@[simp] theorem State.requestVBlank_mode (s : State) : (s.requestVBlank).mode = s.mode := rfl
@[simp] theorem State.requestVBlank_line (s : State) : (s.requestVBlank).line = s.line := rfl
@[simp] theorem State.requestVBlank_cfg (s : State) : (s.requestVBlank).cfg = s.cfg := rfl
@[simp] theorem State.requestVBlank_returned (s : State) : (s.requestVBlank).returned = s.returned := rfl
@[simp] theorem State.requestVBlank_sched (s : State) : (s.requestVBlank).sched = s.sched := rfl
@[simp] theorem State.requestVBlank_turn (s : State) : (s.requestVBlank).turn = s.turn := rfl

/-! ## withdrawVBlank -/

@[simp] theorem State.withdrawVBlank_a (s : State) : (s.withdrawVBlank).a = s.a := rfl
@[simp] theorem State.withdrawVBlank_f (s : State) : (s.withdrawVBlank).f = s.f := rfl
@[simp] theorem State.withdrawVBlank_b (s : State) : (s.withdrawVBlank).b = s.b := rfl
@[simp] theorem State.withdrawVBlank_c (s : State) : (s.withdrawVBlank).c = s.c := rfl
@[simp] theorem State.withdrawVBlank_d (s : State) : (s.withdrawVBlank).d = s.d := rfl
@[simp] theorem State.withdrawVBlank_e (s : State) : (s.withdrawVBlank).e = s.e := rfl
@[simp] theorem State.withdrawVBlank_h (s : State) : (s.withdrawVBlank).h = s.h := rfl
@[simp] theorem State.withdrawVBlank_l (s : State) : (s.withdrawVBlank).l = s.l := rfl
@[simp] theorem State.withdrawVBlank_sp (s : State) : (s.withdrawVBlank).sp = s.sp := rfl
@[simp] theorem State.withdrawVBlank_pc (s : State) : (s.withdrawVBlank).pc = s.pc := rfl
@[simp] theorem State.withdrawVBlank_ime (s : State) : (s.withdrawVBlank).ime = s.ime := rfl
@[simp] theorem State.withdrawVBlank_eip (s : State) : (s.withdrawVBlank).eip = s.eip := rfl
@[simp] theorem State.withdrawVBlank_halted (s : State) : (s.withdrawVBlank).halted = s.halted := rfl
@[simp] theorem State.withdrawVBlank_fault (s : State) : (s.withdrawVBlank).fault = s.fault := rfl
@[simp] theorem State.withdrawVBlank_rom (s : State) : (s.withdrawVBlank).rom = s.rom := rfl
@[simp] theorem State.withdrawVBlank_romBanks (s : State) : (s.withdrawVBlank).romBanks = s.romBanks := rfl
@[simp] theorem State.withdrawVBlank_cartRam (s : State) : (s.withdrawVBlank).cartRam = s.cartRam := rfl
@[simp] theorem State.withdrawVBlank_mapper (s : State) : (s.withdrawVBlank).mapper = s.mapper := rfl
@[simp] theorem State.withdrawVBlank_mode (s : State) : (s.withdrawVBlank).mode = s.mode := rfl
@[simp] theorem State.withdrawVBlank_line (s : State) : (s.withdrawVBlank).line = s.line := rfl
@[simp] theorem State.withdrawVBlank_cfg (s : State) : (s.withdrawVBlank).cfg = s.cfg := rfl
@[simp] theorem State.withdrawVBlank_returned (s : State) : (s.withdrawVBlank).returned = s.returned := rfl
@[simp] theorem State.withdrawVBlank_sched (s : State) : (s.withdrawVBlank).sched = s.sched := rfl
@[simp] theorem State.withdrawVBlank_turn (s : State) : (s.withdrawVBlank).turn = s.turn := rfl

/-! ## ppuStep -/

@[simp] theorem State.ppuStep_a (s : State) : (s.ppuStep).a = s.a := by
  unfold State.ppuStep State.ppuTransition
  dsimp only
  split <;> (try split) <;> simp
@[simp] theorem State.ppuStep_f (s : State) : (s.ppuStep).f = s.f := by
  unfold State.ppuStep State.ppuTransition
  dsimp only
  split <;> (try split) <;> simp
@[simp] theorem State.ppuStep_b (s : State) : (s.ppuStep).b = s.b := by
  unfold State.ppuStep State.ppuTransition
  dsimp only
  split <;> (try split) <;> simp
@[simp] theorem State.ppuStep_c (s : State) : (s.ppuStep).c = s.c := by
  unfold State.ppuStep State.ppuTransition
  dsimp only
  split <;> (try split) <;> simp
@[simp] theorem State.ppuStep_d (s : State) : (s.ppuStep).d = s.d := by
  unfold State.ppuStep State.ppuTransition
  dsimp only
  split <;> (try split) <;> simp
@[simp] theorem State.ppuStep_e (s : State) : (s.ppuStep).e = s.e := by
  unfold State.ppuStep State.ppuTransition
  dsimp only
  split <;> (try split) <;> simp
@[simp] theorem State.ppuStep_h (s : State) : (s.ppuStep).h = s.h := by
  unfold State.ppuStep State.ppuTransition
  dsimp only
  split <;> (try split) <;> simp
@[simp] theorem State.ppuStep_l (s : State) : (s.ppuStep).l = s.l := by
  unfold State.ppuStep State.ppuTransition
  dsimp only
  split <;> (try split) <;> simp
@[simp] theorem State.ppuStep_sp (s : State) : (s.ppuStep).sp = s.sp := by
  unfold State.ppuStep State.ppuTransition
  dsimp only
  split <;> (try split) <;> simp
@[simp] theorem State.ppuStep_pc (s : State) : (s.ppuStep).pc = s.pc := by
  unfold State.ppuStep State.ppuTransition
  dsimp only
  split <;> (try split) <;> simp
@[simp] theorem State.ppuStep_ime (s : State) : (s.ppuStep).ime = s.ime := by
  unfold State.ppuStep State.ppuTransition
  dsimp only
  split <;> (try split) <;> simp
@[simp] theorem State.ppuStep_eip (s : State) : (s.ppuStep).eip = s.eip := by
  unfold State.ppuStep State.ppuTransition
  dsimp only
  split <;> (try split) <;> simp
@[simp] theorem State.ppuStep_halted (s : State) : (s.ppuStep).halted = s.halted := by
  unfold State.ppuStep State.ppuTransition
  dsimp only
  split <;> (try split) <;> simp
@[simp] theorem State.ppuStep_fault (s : State) : (s.ppuStep).fault = s.fault := by
  unfold State.ppuStep State.ppuTransition
  dsimp only
  split <;> (try split) <;> simp
@[simp] theorem State.ppuStep_rom (s : State) : (s.ppuStep).rom = s.rom := by
  unfold State.ppuStep State.ppuTransition
  dsimp only
  split <;> (try split) <;> simp
@[simp] theorem State.ppuStep_romBanks (s : State) : (s.ppuStep).romBanks = s.romBanks := by
  unfold State.ppuStep State.ppuTransition
  dsimp only
  split <;> (try split) <;> simp
@[simp] theorem State.ppuStep_cartRam (s : State) : (s.ppuStep).cartRam = s.cartRam := by
  unfold State.ppuStep State.ppuTransition
  dsimp only
  split <;> (try split) <;> simp
@[simp] theorem State.ppuStep_mapper (s : State) : (s.ppuStep).mapper = s.mapper := by
  unfold State.ppuStep State.ppuTransition
  dsimp only
  split <;> (try split) <;> simp
@[simp] theorem State.ppuStep_cfg (s : State) : (s.ppuStep).cfg = s.cfg := by
  unfold State.ppuStep State.ppuTransition
  dsimp only
  split <;> (try split) <;> simp
@[simp] theorem State.ppuStep_sched (s : State) : (s.ppuStep).sched = s.sched := by
  unfold State.ppuStep State.ppuTransition
  dsimp only
  split <;> (try split) <;> simp
@[simp] theorem State.ppuStep_turn (s : State) : (s.ppuStep).turn = s.turn := by
  unfold State.ppuStep State.ppuTransition
  dsimp only
  split <;> (try split) <;> simp

/-! ## poke -/

@[simp] theorem State.poke_a (s : State) (k : Word) (v : Byte) : (s.poke k v).a = s.a := by
  unfold State.poke
  split_ifs <;> simp
@[simp] theorem State.poke_f (s : State) (k : Word) (v : Byte) : (s.poke k v).f = s.f := by
  unfold State.poke
  split_ifs <;> simp
@[simp] theorem State.poke_b (s : State) (k : Word) (v : Byte) : (s.poke k v).b = s.b := by
  unfold State.poke
  split_ifs <;> simp
@[simp] theorem State.poke_c (s : State) (k : Word) (v : Byte) : (s.poke k v).c = s.c := by
  unfold State.poke
  split_ifs <;> simp
@[simp] theorem State.poke_d (s : State) (k : Word) (v : Byte) : (s.poke k v).d = s.d := by
  unfold State.poke
  split_ifs <;> simp
@[simp] theorem State.poke_e (s : State) (k : Word) (v : Byte) : (s.poke k v).e = s.e := by
  unfold State.poke
  split_ifs <;> simp
@[simp] theorem State.poke_h (s : State) (k : Word) (v : Byte) : (s.poke k v).h = s.h := by
  unfold State.poke
  split_ifs <;> simp
@[simp] theorem State.poke_l (s : State) (k : Word) (v : Byte) : (s.poke k v).l = s.l := by
  unfold State.poke
  split_ifs <;> simp
@[simp] theorem State.poke_sp (s : State) (k : Word) (v : Byte) : (s.poke k v).sp = s.sp := by
  unfold State.poke
  split_ifs <;> simp
@[simp] theorem State.poke_pc (s : State) (k : Word) (v : Byte) : (s.poke k v).pc = s.pc := by
  unfold State.poke
  split_ifs <;> simp
@[simp] theorem State.poke_ime (s : State) (k : Word) (v : Byte) : (s.poke k v).ime = s.ime := by
  unfold State.poke
  split_ifs <;> simp
@[simp] theorem State.poke_eip (s : State) (k : Word) (v : Byte) : (s.poke k v).eip = s.eip := by
  unfold State.poke
  split_ifs <;> simp
@[simp] theorem State.poke_halted (s : State) (k : Word) (v : Byte) : (s.poke k v).halted = s.halted := by
  unfold State.poke
  split_ifs <;> simp
@[simp] theorem State.poke_fault (s : State) (k : Word) (v : Byte) : (s.poke k v).fault = s.fault := by
  unfold State.poke
  split_ifs <;> simp
@[simp] theorem State.poke_romBanks (s : State) (k : Word) (v : Byte) : (s.poke k v).romBanks = s.romBanks := by
  unfold State.poke
  split_ifs <;> simp
@[simp] theorem State.poke_mapper (s : State) (k : Word) (v : Byte) : (s.poke k v).mapper = s.mapper := by
  unfold State.poke
  split_ifs <;> simp
@[simp] theorem State.poke_mode (s : State) (k : Word) (v : Byte) : (s.poke k v).mode = s.mode := by
  unfold State.poke
  split_ifs <;> simp
@[simp] theorem State.poke_line (s : State) (k : Word) (v : Byte) : (s.poke k v).line = s.line := by
  unfold State.poke
  split_ifs <;> simp
@[simp] theorem State.poke_cfg (s : State) (k : Word) (v : Byte) : (s.poke k v).cfg = s.cfg := by
  unfold State.poke
  split_ifs <;> simp
@[simp] theorem State.poke_returned (s : State) (k : Word) (v : Byte) : (s.poke k v).returned = s.returned := by
  unfold State.poke
  split_ifs <;> simp
@[simp] theorem State.poke_sched (s : State) (k : Word) (v : Byte) : (s.poke k v).sched = s.sched := by
  unfold State.poke
  split_ifs <;> simp
@[simp] theorem State.poke_turn (s : State) (k : Word) (v : Byte) : (s.poke k v).turn = s.turn := by
  unfold State.poke
  split_ifs <;> simp

/-! ## Registers and pairs -/

@[simp] theorem State.reg_setReg (s : State) (r r' : Reg8) (v : Byte) :
    (s.setReg r v).reg r' = if r' = r then v else s.reg r' := by
  cases r <;> cases r' <;> rfl

/-- Reading a register sees only the seven registers. -/
theorem State.reg_congr {s t : State} (ha : t.a = s.a) (hb : t.b = s.b) (hc : t.c = s.c) (hd : t.d = s.d)
    (he : t.e = s.e) (hh : t.h = s.h) (hl : t.l = s.l) (r : Reg8) : t.reg r = s.reg r := by
  cases r <;> simp [State.reg, *]

theorem toNat_join (hi lo : Byte) : (join hi lo).toNat = hi.toNat * 256 + lo.toNat := by
  have h : (hi ++ lo).toNat = hi.toNat <<< 8 ||| lo.toNat := BitVec.toNat_append hi lo
  rw [← Nat.shiftLeft_add_eq_or_of_lt lo.isLt hi.toNat, Nat.shiftLeft_eq] at h
  exact h

theorem toNat_hiByte (w : Word) : (hiByte w).toNat = w.toNat / 256 := by
  have := w.isLt
  simp only [hiByte, BitVec.extractLsb'_toNat, Nat.shiftRight_eq_div_pow]
  omega

theorem toNat_loByte (w : Word) : (loByte w).toNat = w.toNat % 256 := by
  simp [loByte]

@[simp] theorem hiByte_join (hi lo : Byte) : hiByte (join hi lo) = hi := by
  apply BitVec.eq_of_toNat_eq
  have := lo.isLt
  rw [toNat_hiByte, toNat_join]
  omega

@[simp] theorem loByte_join (hi lo : Byte) : loByte (join hi lo) = lo := by
  apply BitVec.eq_of_toNat_eq
  have := lo.isLt
  rw [toNat_loByte, toNat_join]
  omega

@[simp] theorem join_hiByte_loByte (w : Word) : join (hiByte w) (loByte w) = w := by
  apply BitVec.eq_of_toNat_eq
  rw [toNat_join, toNat_hiByte, toNat_loByte]
  omega

@[simp] theorem State.pair_setPair (s : State) (p : Pair) (v : Word) : (s.setPair p v).pair p = v := by
  cases p <;> simp [State.setPair, State.pair]

@[simp] theorem State.pair_hlInc (s : State) : s.hlInc.pair .hl = s.pair .hl + 1 := by simp [State.hlInc]

@[simp] theorem State.pair_hlDec (s : State) : s.hlDec.pair .hl = s.pair .hl - 1 := by simp [State.hlDec]

/-! ## Flags -/

@[simp] theorem packF_low (z n h c : Bool) : packF z n h c &&& 0x0F = 0 := by
  cases z <;> cases n <;> cases h <;> cases c <;> rfl

theorem packF_bit7 (z n h c : Bool) : (packF z n h c).getLsbD 7 = z := by
  cases z <;> cases n <;> cases h <;> cases c <;> rfl

@[simp] theorem packF_get7 (z n h c : Bool) : (packF z n h c)[7] = z := packF_bit7 z n h c

theorem packF_bit6 (z n h c : Bool) : (packF z n h c).getLsbD 6 = n := by
  cases z <;> cases n <;> cases h <;> cases c <;> rfl

@[simp] theorem packF_get6 (z n h c : Bool) : (packF z n h c)[6] = n := packF_bit6 z n h c

theorem packF_bit5 (z n h c : Bool) : (packF z n h c).getLsbD 5 = h := by
  cases z <;> cases n <;> cases h <;> cases c <;> rfl

@[simp] theorem packF_get5 (z n h c : Bool) : (packF z n h c)[5] = h := packF_bit5 z n h c

theorem packF_bit4 (z n h c : Bool) : (packF z n h c).getLsbD 4 = c := by
  cases z <;> cases n <;> cases h <;> cases c <;> rfl

@[simp] theorem packF_get4 (z n h c : Bool) : (packF z n h c)[4] = c := packF_bit4 z n h c

@[simp] theorem State.setFlags_f (s : State) (z n h c : Bool) : (s.setFlags z n h c).f = packF z n h c := rfl

@[simp] theorem State.setFlags_flagZ (s : State) (z n h c : Bool) : (s.setFlags z n h c).flagZ = z := by
  simp [State.flagZ]

@[simp] theorem State.setFlags_flagN (s : State) (z n h c : Bool) : (s.setFlags z n h c).flagN = n := by
  simp [State.flagN]

@[simp] theorem State.setFlags_flagH (s : State) (z n h c : Bool) : (s.setFlags z n h c).flagH = h := by
  simp [State.flagH]

@[simp] theorem State.setFlags_flagC (s : State) (z n h c : Bool) : (s.setFlags z n h c).flagC = c := by
  simp [State.flagC]

/-- A clean F is the four flags packed. -/
theorem packF_of_clean (f : Byte) (h : f &&& 0x0F = 0) :
    packF (f.getLsbD 7) (f.getLsbD 6) (f.getLsbD 5) (f.getLsbD 4) = f := by
  revert f
  decide

/-! ## What an update sets -/

@[simp] theorem State.writeF_f (s : State) (v : Byte) : (s.writeF v).f = v &&& 0xF0 := rfl
@[simp] theorem State.popSp_sp (s : State) : s.popSp.sp = s.sp + 2 := rfl
@[simp] theorem State.push16_sp (s : State) (v : Word) : (s.push16 v).sp = s.sp - 2 := by
  simp [State.push16, BitVec.sub_sub]
@[simp] theorem State.advance_pc (s : State) (n : Nat) : (s.advance n).pc = s.pc + BitVec.ofNat 16 n := rfl
@[simp] theorem State.raiseFatal_fault (s : State) (info : FatalInfo) : (s.raiseFatal info).fault = some info := rfl
@[simp] theorem State.raiseFatal_returned (s : State) (info : FatalInfo) : (s.raiseFatal info).returned = none := rfl
@[simp] theorem State.dispatch_pc (s : State) (k : IntSource) : (s.dispatch k).pc = k.vector := rfl
@[simp] theorem State.dispatch_ime (s : State) (k : IntSource) : (s.dispatch k).ime = false := rfl
@[simp] theorem State.dispatch_halted (s : State) (k : IntSource) : (s.dispatch k).halted = false := rfl
@[simp] theorem State.dispatch_sp (s : State) (k : IntSource) : (s.dispatch k).sp = s.sp - 2 := by simp [State.dispatch]
@[simp] theorem State.enterMode_mode (s : State) (m : PpuMode) : (s.enterMode m).mode = m := rfl
@[simp] theorem State.enterLine_line (s : State) (n : Nat) : (s.enterLine n).line = n := rfl
@[simp] theorem State.commitEi_eip (s : State) : s.commitEi.eip = false := by
  unfold State.commitEi
  split
  · rfl
  · rename_i h
    simpa using h
@[simp] theorem State.commitEi_ime (s : State) : s.commitEi.ime = (s.ime || s.eip) := by
  unfold State.commitEi
  split <;> simp_all

end Sys2Proof.Machine
end

