-- ==== Sys2Proof/Laws/Ops.lean ====
section
/-! SUPPORT. What the router, the stack and the interrupt operations can do. -/

namespace Sys2Proof.Machine

/-! ## The backing array -/

@[simp] theorem State.direct_setDirect_same (s : State) (k : Word) (v : Byte) : (s.setDirect k v).direct k = v := by
  simp [State.direct, State.setDirect]

theorem State.direct_setDirect_other (s : State) (k j : Word) (v : Byte) (h : j ≠ k) :
    (s.setDirect k v).direct j = s.direct j :=
  Memory.get_set_other .backing s.backing k.toNat j.toNat v fun he => h (BitVec.eq_of_toNat_eq he)

theorem State.direct_setDirect (s : State) (k j : Word) (v : Byte) :
    (s.setDirect k v).direct j = if j = k then v else s.direct j := by
  split
  · rename_i h
    simp [h]
  · rename_i h
    exact s.direct_setDirect_other k j v h

theorem State.direct_congr {s t : State} (h : t.backing = s.backing) (k : Word) : t.direct k = s.direct k := by
  simp [State.direct, h]

/-- A read depends only on the stores, the mapper and the parameters. -/
theorem State.read_congr {s t : State} (hb : t.backing = s.backing) (hr : t.rom = s.rom)
    (hn : t.romBanks = s.romBanks) (hc : t.cartRam = s.cartRam) (hm : t.mapper = s.mapper) (hg : t.cfg = s.cfg)
    (a : Word) : t.read a = s.read a := by
  simp only [State.read, State.mapperRead, State.romOffset, State.cartRamRead, State.cartRamOffset, State.direct, hb,
    hr, hn, hc, hm, hg]

/-! ## Regions -/

theorem isEcho_iff (a : Word) : isEcho a = true ↔ 0xE000 ≤ a.toNat ∧ a.toNat ≤ 0xFDFF := by
  simp [isEcho]

/-- An echo address stands for one in work RAM. -/
theorem toNat_sub_echo (a : Word) (h : isEcho a = true) : (a - 0x2000).toNat = a.toNat - 0x2000 := by
  have := (isEcho_iff a).mp h
  have := a.isLt
  bv_omega

theorem canonical_of_not_echo (a : Word) (h : isEcho a = false) : canonical a = a := by simp [canonical, h]

theorem canonical_of_echo (a : Word) (h : isEcho a = true) : canonical a = a - 0x2000 := by simp [canonical, h]

/-! ## What a write can do -/

/-- The cases of a write: a mapper control write, a cartridge RAM write, or a store in the backing array at the canonical
address, masked at STAT. -/
theorem State.write_cases (s : State) (a : Word) (v : Byte) :
    (a.toNat ≤ 0x7FFF ∧ s.write a v = s.mapperWrite a v) ∨
    (0xA000 ≤ a.toNat ∧ a.toNat ≤ 0xBFFF ∧ s.write a v = s.cartRamWrite a v) ∨
    (0x8000 ≤ a.toNat ∧ ¬(0xA000 ≤ a.toNat ∧ a.toNat ≤ 0xBFFF) ∧ canonical a ≠ 0xFF41 ∧
      s.write a v = s.setDirect (canonical a) v) ∨
    (a = 0xFF41 ∧ s.write a v = s.setDirect 0xFF41 ((s.direct 0xFF41 &&& 0x07) ||| (v &&& 0xF8))) := by
  unfold State.write
  split_ifs with h1 h2 h3 h4
  · exact .inl ⟨h1, rfl⟩
  · exact .inr (.inl ⟨h2.1, h2.2, rfl⟩)
  · refine .inr (.inr (.inl ⟨by omega, h2, ?_, by rw [canonical_of_echo a h3]⟩))
    have := (isEcho_iff a).mp h3
    have h5 := toNat_sub_echo a h3
    rw [canonical_of_echo a h3]
    intro he
    rw [he] at h5
    simp at h5
    omega
  · exact .inr (.inr (.inr ⟨h4, rfl⟩))
  · have h3' : isEcho a = false := by simpa using h3
    refine .inr (.inr (.inl ⟨by omega, h2, ?_, by rw [canonical_of_not_echo a h3']⟩))
    rw [canonical_of_not_echo a h3']
    exact h4

/-- A cartridge RAM write: a store in the backing array (RomOnly), nothing, or one byte of the RAM image. -/
theorem State.cartRamWrite_cases (s : State) (a : Word) (v : Byte) :
    (s.mapper = .romOnly ∧ s.cartRamWrite a v = s.setDirect a v) ∨
    (∃ m, s.mapper = .mbc1 m ∧ s.cartRamOffset m a = none ∧ s.cartRamWrite a v = s) ∨
    (∃ m o, s.mapper = .mbc1 m ∧ s.cartRamOffset m a = some o ∧
      s.cartRamWrite a v = { s with cartRam := Memory.set .cartRam s.cartRam o v }) := by
  unfold State.cartRamWrite
  split
  · rename_i h
    exact .inl ⟨h, rfl⟩
  · rename_i m h
    split
    · rename_i ho
      exact .inr (.inl ⟨m, h, ho, rfl⟩)
    · rename_i o ho
      exact .inr (.inr ⟨m, o, h, ho, rfl⟩)

/-- Offsets of the RAM image stay inside it. -/
theorem State.cartRamOffset_lt (s : State) (m : Mbc1) (a : Word) (o : Nat) (h1 : 0xA000 ≤ a.toNat)
    (h2 : a.toNat ≤ 0xBFFF) (h : s.cartRamOffset m a = some o) : o < Store.cartRam.size := by
  unfold State.cartRamOffset at h
  simp only [Store.size]
  dsimp only at h
  split_ifs at h with hc
  simp only [Option.some.injEq] at h
  rw [not_or] at hc
  have hb : s.cfg.ramBanks.count ≤ 4 := by cases s.cfg.ramBanks <;> decide
  obtain ⟨rb, hrb⟩ : ∃ rb, rb % s.cfg.ramBanks.count * 0x2000 + (a.toNat - 0xA000) = o := ⟨_, h⟩
  have := Nat.mod_lt rb (Nat.pos_of_ne_zero hc.2)
  omega

theorem State.write_low (s : State) (a : Word) (v : Byte) (h : a.toNat ≤ 0x7FFF) :
    s.write a v = s.mapperWrite a v := by simp [State.write, h]

/-- A control write stores no byte. -/
theorem State.backing_write_low (s : State) (a : Word) (v : Byte) (h : a.toNat ≤ 0x7FFF) :
    (s.write a v).backing = s.backing := by simp [State.write_low s a v h]

theorem State.cartRam_write_low (s : State) (a : Word) (v : Byte) (h : a.toNat ≤ 0x7FFF) :
    (s.write a v).cartRam = s.cartRam := by simp [State.write_low s a v h]

/-- A store at 0x8000 or above leaves the mapper alone. -/
theorem State.mapper_write_high (s : State) (a : Word) (v : Byte) (h : 0x8000 ≤ a.toNat) :
    (s.write a v).mapper = s.mapper := by
  rcases s.write_cases a v with ⟨h1, -⟩ | ⟨-, -, hw⟩ | ⟨-, -, -, hw⟩ | ⟨-, hw⟩
  · omega
  all_goals simp [hw]

/-- RAM_IMAGE is written only through its window. -/
theorem State.cartRam_write_outside (s : State) (a : Word) (v : Byte) (h : ¬(0xA000 ≤ a.toNat ∧ a.toNat ≤ 0xBFFF)) :
    (s.write a v).cartRam = s.cartRam := by
  rcases s.write_cases a v with ⟨-, hw⟩ | ⟨h1, h2, -⟩ | ⟨-, -, -, hw⟩ | ⟨-, hw⟩
  · simp [hw]
  · exact absurd ⟨h1, h2⟩ h
  all_goals simp [hw]

/-- A write leaves every byte of the backing array alone but the one at its canonical address. -/
theorem State.direct_write_other (s : State) (a k : Word) (v : Byte) (h : k ≠ canonical a) :
    (s.write a v).direct k = s.direct k := by
  rcases s.write_cases a v with ⟨-, hw⟩ | ⟨h1, h2, hw⟩ | ⟨-, -, -, hw⟩ | ⟨ha, hw⟩
  · rw [hw]
    exact State.direct_congr (by simp) k
  · have hc : canonical a = a := canonical_of_not_echo a (by
      by_contra hne
      simp [isEcho] at hne
      omega)
    rw [hw]
    rcases s.cartRamWrite_cases a v with ⟨-, hw⟩ | ⟨_, -, -, hw⟩ | ⟨_, _, -, -, hw⟩
    · rw [hw]
      exact s.direct_setDirect_other a k v (hc ▸ h)
    · rw [hw]
    · rw [hw]
      rfl
  · rw [hw]
    exact s.direct_setDirect_other _ k v h
  · subst ha
    rw [hw]
    exact s.direct_setDirect_other _ k _ h

/-- STAT[2:0] survives every write (R68). -/
theorem State.stat_low_write (s : State) (a : Word) (v : Byte) :
    (s.write a v).direct 0xFF41 &&& 0x07 = s.direct 0xFF41 &&& 0x07 := by
  by_cases h : canonical a = 0xFF41
  · rcases s.write_cases a v with ⟨-, hw⟩ | ⟨h1, h2, hw⟩ | ⟨-, -, hn, -⟩ | ⟨ha, hw⟩
    · rw [hw]
      exact congrArg (· &&& 0x07) (State.direct_congr (by simp) _)
    · exfalso
      have hne : isEcho a = false := by
        by_contra hne
        simp [isEcho] at hne
        omega
      rw [canonical_of_not_echo a hne] at h
      rw [h] at h2
      simp at h2
    · exact absurd h hn
    · rw [hw, State.direct_setDirect_same]
      generalize s.direct 0xFF41 = d
      clear * -
      ext i hi
      rcases i with _ | _ | _ | _ | _ | _ | _ | _ | i <;> simp_all
      omega
  · rw [s.direct_write_other a 0xFF41 v (Ne.symm h)]

/-- Every write keeps the stores canonical. -/
theorem State.setDirect_memoryWf (s : State) (k : Word) (v : Byte) (h : s.memoryWf) : (s.setDirect k v).memoryWf :=
  ⟨Memory.set_wf .backing s.backing k.toNat v k.isLt h.1, h.2⟩

theorem State.write_memoryWf (s : State) (a : Word) (v : Byte) (h : s.memoryWf) : (s.write a v).memoryWf := by
  rcases s.write_cases a v with ⟨-, hw⟩ | ⟨h1, h2, hw⟩ | ⟨-, -, -, hw⟩ | ⟨-, hw⟩
  · rw [hw]
    simpa [State.memoryWf] using h
  · rw [hw]
    rcases s.cartRamWrite_cases a v with ⟨-, hw⟩ | ⟨_, -, -, hw⟩ | ⟨m, o, -, ho, hw⟩
    · rw [hw]
      exact s.setDirect_memoryWf a v h
    · rwa [hw]
    · rw [hw]
      exact ⟨h.1, h.2.1, Memory.set_wf .cartRam s.cartRam o v (s.cartRamOffset_lt m a o h1 h2 ho) h.2.2⟩
  · rw [hw]
    exact s.setDirect_memoryWf _ v h
  · rw [hw]
    exact s.setDirect_memoryWf _ _ h

/-- A control write never leaves BANK_LO at 0 (R72). -/
theorem Mbc1.control_bankLo (m : Mbc1) (a : Word) (v : Byte) (h : m.bankLo ≠ 0) : (m.control a v).bankLo ≠ 0 := by
  unfold Mbc1.control
  split_ifs <;> simp_all

theorem State.write_bankOk (s : State) (a : Word) (v : Byte) (h : s.bankOk) : (s.write a v).bankOk := by
  have key : ∀ t : State, t.mapper = s.mapper → t.bankOk := fun t ht => by simpa [State.bankOk, ht] using h
  rcases s.write_cases a v with ⟨-, hw⟩ | ⟨-, -, hw⟩ | ⟨-, -, -, hw⟩ | ⟨-, hw⟩
  · rw [hw]
    unfold State.mapperWrite
    split
    · exact h
    · rename_i m hm
      have hb : m.bankLo ≠ 0 := by simpa [State.bankOk, hm] using h
      exact m.control_bankLo a v hb
  all_goals exact key _ (by simp [hw])

/-! ## Reads after writes -/

theorem State.read_of_direct (s : State) (a : Word) (h : plain a = true) : s.read a = s.direct a := by
  have ha := a.isLt
  have hne : a ≠ 0xFF0F := by
    rintro rfl
    simp [plain] at h
  simp only [plain, Bool.or_eq_true, Bool.and_eq_true, decide_eq_true_eq] at h
  unfold State.read
  have hx : isEcho a = false := by
    by_contra hx
    simp [isEcho] at hx
    omega
  rw [if_neg (by omega), if_neg (by omega), if_neg (by simp [hx]), if_neg (by omega), if_neg hne]

theorem State.write_of_plain (s : State) (a : Word) (v : Byte) (h : plain a = true) : s.write a v = s.setDirect a v := by
  have ha := a.isLt
  have hne : a ≠ 0xFF41 := by
    rintro rfl
    simp [plain] at h
  simp only [plain, Bool.or_eq_true, Bool.and_eq_true, decide_eq_true_eq] at h
  unfold State.write
  have hx : isEcho a = false := by
    by_contra hx
    simp [isEcho] at hx
    omega
  rw [if_neg (by omega), if_neg (by omega), if_neg (by simp [hx]), if_neg hne]

/-! ## Interrupt sources -/

/-- Nothing is dispatched exactly when IME is 0 or nothing is pending (R503). -/
theorem State.dispatchable_eq_none_iff (s : State) : s.dispatchable = none ↔ s.noDispatch := by
  have hp : s.pending = s.direct 0xFF0F &&& s.direct 0xFFFF &&& 0x1F := rfl
  unfold State.dispatchable State.noDispatch
  rw [← hp]
  cases s.ime
  · simp
  · simp only [if_true, Bool.true_eq_false, false_or]
    have hb : ∀ v : BitVec 8, v &&& 0x1F = v →
        (intSources.find? (fun k => v.getLsbD k.bit) = none ↔ v = 0) := by decide
    refine hb s.pending ?_
    rw [hp]
    generalize s.direct 0xFF0F &&& s.direct 0xFFFF = v
    revert v
    decide


theorem State.firstPending_congr {s t : State} (h : t.backing = s.backing) : t.firstPending = s.firstPending := by
  simp [State.firstPending, State.pending, State.direct, h]

theorem State.pending_congr {s t : State} (h : t.backing = s.backing) : t.pending = s.pending := by
  simp [State.pending, State.direct, h]

end Sys2Proof.Machine
end

