-- ==== Sys2Proof/Laws/Shape.lean ====
section
/-! SUPPORT. The shapes of the 512 meanings. `exec_eq_post` says once what `exec` does: every instruction has one of the
47 shapes, and answers the next state of its shape. A proof about all instructions goes over the shapes. -/

namespace Sys2Proof.Machine

/-- Where a load or store of A finds its address. -/
inductive AddrForm where
  | pair (p : Pair)
  | high (n : Byte)
  | highC
  | abs (n : Word)
  deriving DecidableEq, Repr

def AddrForm.addr (s : State) : AddrForm → Word
  | .pair p => s.pair p
  | .high n => highAddr n
  | .highC => highAddr s.c
  | .abs n => n

/-- Where a jump goes. -/
inductive TargetForm where
  | abs (n : Word)
  | rel (e : Byte)
  | hl
  deriving DecidableEq, Repr

def TargetForm.target (s : State) : TargetForm → Word
  | .abs n => n
  | .rel e => s.relTarget e
  | .hl => s.pair .hl

/-- The shape of a meaning; a number is a cycle count. -/
inductive Shape where
  | ldRR (dst r : Reg8)
  | ldRImm (dst : Reg8) (n : Byte)
  | ldRAtHl (dst : Reg8)
  | ldAtHlR (r : Reg8)
  | stHlImm (n : Byte)
  | ldA (f : AddrForm) (cyc : Nat)
  | stA (f : AddrForm) (cyc : Nat)
  | stHlInc
  | stHlDec
  | ldHlInc
  | ldHlDec
  | ldPair (p : Pair) (n : Word)
  | stSp (n : Word)
  | ldSpHl
  | push (p : StackPair)
  | pop (p : StackPair)
  | spPlus (dst : Pair) (n : Byte) (cyc : Nat)
  | alu (op : AluOp) (src : AluSrc)
  | inc (o : Operand8)
  | dec (o : Operand8)
  | daa
  | cpl
  | scf
  | ccf
  | addHl (p : Pair)
  | incPair (p : Pair)
  | decPair (p : Pair)
  | rlca
  | rrca
  | rla
  | rra
  | rot (op : RotOp) (o : Operand8)
  | bit (b : Fin 8) (o : Operand8)
  | res (b : Fin 8) (o : Operand8)
  | set (b : Fin 8) (o : Operand8)
  | jump (f : TargetForm) (cyc : Nat)
  | jumpIf (cc : Cond) (f : TargetForm) (cycTaken cycNot : Nat)
  | call (t : Word) (cyc : Nat)
  | callIf (cc : Cond) (t : Word)
  | ret
  | retIf (cc : Cond)
  | reti
  | nop
  | di
  | ei
  | halt
  | unimplemented (op : Byte)
  deriving DecidableEq, Repr

/-- The state with the step's count. -/
def State.count (s : State) (n : Nat) : State := { s with returned := some n }

/-! ## The returned count -/

@[simp] theorem State.count_a (s : State) (n : Nat) : (s.count n).a = s.a := rfl
@[simp] theorem State.count_b (s : State) (n : Nat) : (s.count n).b = s.b := rfl
@[simp] theorem State.count_c (s : State) (n : Nat) : (s.count n).c = s.c := rfl
@[simp] theorem State.count_d (s : State) (n : Nat) : (s.count n).d = s.d := rfl
@[simp] theorem State.count_e (s : State) (n : Nat) : (s.count n).e = s.e := rfl
@[simp] theorem State.count_f (s : State) (n : Nat) : (s.count n).f = s.f := rfl
@[simp] theorem State.count_h (s : State) (n : Nat) : (s.count n).h = s.h := rfl
@[simp] theorem State.count_l (s : State) (n : Nat) : (s.count n).l = s.l := rfl
@[simp] theorem State.count_sp (s : State) (n : Nat) : (s.count n).sp = s.sp := rfl
@[simp] theorem State.count_pc (s : State) (n : Nat) : (s.count n).pc = s.pc := rfl
@[simp] theorem State.count_ime (s : State) (n : Nat) : (s.count n).ime = s.ime := rfl
@[simp] theorem State.count_eip (s : State) (n : Nat) : (s.count n).eip = s.eip := rfl
@[simp] theorem State.count_halted (s : State) (n : Nat) : (s.count n).halted = s.halted := rfl
@[simp] theorem State.count_fault (s : State) (n : Nat) : (s.count n).fault = s.fault := rfl
@[simp] theorem State.count_backing (s : State) (n : Nat) : (s.count n).backing = s.backing := rfl
@[simp] theorem State.count_rom (s : State) (n : Nat) : (s.count n).rom = s.rom := rfl
@[simp] theorem State.count_romBanks (s : State) (n : Nat) : (s.count n).romBanks = s.romBanks := rfl
@[simp] theorem State.count_cartRam (s : State) (n : Nat) : (s.count n).cartRam = s.cartRam := rfl
@[simp] theorem State.count_mapper (s : State) (n : Nat) : (s.count n).mapper = s.mapper := rfl
@[simp] theorem State.count_mode (s : State) (n : Nat) : (s.count n).mode = s.mode := rfl
@[simp] theorem State.count_line (s : State) (n : Nat) : (s.count n).line = s.line := rfl
@[simp] theorem State.count_cfg (s : State) (n : Nat) : (s.count n).cfg = s.cfg := rfl
@[simp] theorem State.count_sched (s : State) (n : Nat) : (s.count n).sched = s.sched := rfl
@[simp] theorem State.count_turn (s : State) (n : Nat) : (s.count n).turn = s.turn := rfl
@[simp] theorem State.count_returned (s : State) (n : Nat) : (s.count n).returned = some n := rfl
@[simp] theorem State.reg_count (s : State) (n : Nat) (r : Reg8) : (s.count n).reg r = s.reg r := by cases r <;> rfl
@[simp] theorem State.pair_count (s : State) (n : Nat) (p : Pair) : (s.count n).pair p = s.pair p := by cases p <;> rfl
@[simp] theorem State.stackPair_count (s : State) (n : Nat) (p : StackPair) : (s.count n).stackPair p = s.stackPair p := by
  cases p <;> rfl
@[simp] theorem State.flagZ_count (s : State) (n : Nat) : (s.count n).flagZ = s.flagZ := rfl
@[simp] theorem State.flagN_count (s : State) (n : Nat) : (s.count n).flagN = s.flagN := rfl
@[simp] theorem State.flagH_count (s : State) (n : Nat) : (s.count n).flagH = s.flagH := rfl
@[simp] theorem State.flagC_count (s : State) (n : Nat) : (s.count n).flagC = s.flagC := rfl
@[simp] theorem State.direct_count (s : State) (n : Nat) (k : Word) : (s.count n).direct k = s.direct k := rfl
@[simp] theorem State.read_count (s : State) (n : Nat) (a : Word) : (s.count n).read a = s.read a := rfl

/-- A rotate of A. -/
def State.rotatedA (s : State) (r : Byte × Bool) : State := (s.setReg .a r.1).setFlags false false false r.2

/-- An operand and the flags written. -/
def State.writeOut (s : State) (o : Operand8) (r : Out8) : State := (s.writeR o r.res).setFlags r.z r.n r.h r.c

/-- A call and a return. -/
def State.called (s : State) (t : Word) : State := { s.push16 s.pc with pc := t }
def State.popPc (s : State) : State := { s.popSp with pc := s.popValue }

/-- The next state of a shape. -/
def Shape.post (s : State) : Shape → State
  | .ldRR dst r => (s.setReg dst (s.reg r)).count 4
  | .ldRImm dst n => (s.setReg dst n).count 8
  | .ldRAtHl dst => (s.setReg dst (s.read (s.pair .hl))).count 8
  | .ldAtHlR r => (s.write (s.pair .hl) (s.reg r)).count 8
  | .stHlImm n => (s.write (s.pair .hl) n).count 12
  | .ldA f k => (s.setReg .a (s.read (f.addr s))).count k
  | .stA f k => (s.write (f.addr s) s.a).count k
  | .stHlInc => (s.write (s.pair .hl) s.a).hlInc.count 8
  | .stHlDec => (s.write (s.pair .hl) s.a).hlDec.count 8
  | .ldHlInc => (s.setReg .a (s.read (s.pair .hl))).hlInc.count 8
  | .ldHlDec => (s.setReg .a (s.read (s.pair .hl))).hlDec.count 8
  | .ldPair p n => (s.setPair p n).count 12
  | .stSp n => (s.write16 n s.sp).count 20
  | .ldSpHl => (s.setPair .sp (s.pair .hl)).count 8
  | .push p => (s.push16 (s.stackPair p)).count 16
  | .pop p => (s.popSp.setStackPair p s.popValue).count 12
  | .spPlus dst n k =>
    ((s.setPair dst (spAdd s.sp n).res).setFlags false false (spAdd s.sp n).h (spAdd s.sp n).c).count k
  | .alu op src => (s.writeOut (.reg .a) (aluOut s.cfg op s.a (s.aluSrc src) s.flagC)).count src.cycles
  | .inc o => (s.writeOut o (incOut (s.readR o) s.flagC)).count (operandCycles o 4 12)
  | .dec o => (s.writeOut o (decOut (s.readR o) s.flagC)).count (operandCycles o 4 12)
  | .daa => (s.writeOut (.reg .a) (daaOut s.a s.flagN s.flagH s.flagC)).count 4
  | .cpl => ((s.setReg .a (~~~s.a)).setFlags s.flagZ true true s.flagC).count 4
  | .scf => (s.setFlags s.flagZ false false true).count 4
  | .ccf => (s.setFlags s.flagZ false false (!s.flagC)).count 4
  | .addHl p =>
    ((s.setPair .hl (addHlOut s.cfg (s.pair .hl) (s.pair p)).res).setFlags s.flagZ false
      (addHlOut s.cfg (s.pair .hl) (s.pair p)).h (addHlOut s.cfg (s.pair .hl) (s.pair p)).c).count 8
  | .incPair p => (s.setPair p (s.pair p + 1)).count 8
  | .decPair p => (s.setPair p (s.pair p - 1)).count 8
  | .rlca => (s.rotatedA (rotLc s.a)).count 4
  | .rrca => (s.rotatedA (rotRc s.a)).count 4
  | .rla => (s.rotatedA (rotL s.a s.flagC)).count 4
  | .rra => (s.rotatedA (rotR s.a s.flagC)).count 4
  | .rot op o => (s.writeOut o (rotOut s.cfg op (s.readR o) s.flagC)).count (operandCycles o 8 16)
  | .bit b o => (s.setFlags (!(s.readR o).getLsbD b.val) false true s.flagC).count (operandCycles o 8 12)
  | .res b o => (s.writeR o (clearBit b (s.readR o))).count (operandCycles o 8 16)
  | .set b o => (s.writeR o (setBit b (s.readR o))).count (operandCycles o 8 16)
  | .jump f k => { s with pc := f.target s }.count k
  | .jumpIf cc f k k' => if s.cond cc then { s with pc := f.target s }.count k else s.count k'
  | .call t k => (s.called t).count k
  | .callIf cc t => if s.cond cc then (s.called t).count 24 else s.count 12
  | .ret => s.popPc.count 16
  | .retIf cc => if s.cond cc then s.popPc.count 20 else s.count 8
  | .reti => s.returnFromInterrupt.count 16
  | .nop => s.count 4
  | .di => { s with ime := false }.count 4
  | .ei => { s with eip := true }.count 4
  | .halt => { s with halted := true }.count 4
  | .unimplemented op => s.raiseFatal ⟨.primary, op, s.pc - 1⟩

/-- The shape of CB cb. -/
def cbShape (cb : Byte) : Shape :=
  match fieldX cb with
  | 0 => .rot (rotOf (fieldY cb)) (rOf (fieldZ cb))
  | 1 => .bit (bitOf (fieldY cb)) (rOf (fieldZ cb))
  | 2 => .res (bitOf (fieldY cb)) (rOf (fieldZ cb))
  | _ => .set (bitOf (fieldY cb)) (rOf (fieldZ cb))

/-- The shape of each instruction. -/
def shapeOf (i : Instr) : Shape :=
  match i with
  | .ld_bc_d16 n => .ldPair .bc n
  | .ld_b_d8 n => .ldRImm .b n
  | .ld_at_a16_sp n => .stSp n
  | .ld_c_d8 n => .ldRImm .c n
  | .stop _ => .unimplemented 0x10
  | .ld_de_d16 n => .ldPair .de n
  | .ld_d_d8 n => .ldRImm .d n
  | .jr_r8 n => .jump (.rel n) 12
  | .ld_e_d8 n => .ldRImm .e n
  | .jr_nz_r8 n => .jumpIf .nz (.rel n) 12 8
  | .ld_hl_d16 n => .ldPair .hl n
  | .ld_h_d8 n => .ldRImm .h n
  | .jr_z_r8 n => .jumpIf .z (.rel n) 12 8
  | .ld_l_d8 n => .ldRImm .l n
  | .jr_nc_r8 n => .jumpIf .nc (.rel n) 12 8
  | .ld_sp_d16 n => .ldPair .sp n
  | .ld_at_hl_d8 n => .stHlImm n
  | .jr_c_r8 n => .jumpIf .c (.rel n) 12 8
  | .ld_a_d8 n => .ldRImm .a n
  | .jp_nz_a16 n => .jumpIf .nz (.abs n) 16 12
  | .jp_a16 n => .jump (.abs n) 16
  | .call_nz_a16 n => .callIf .nz n
  | .add_a_d8 n => .alu .add (.imm n)
  | .jp_z_a16 n => .jumpIf .z (.abs n) 16 12
  | .prefix_cb n => cbShape n
  | .call_z_a16 n => .callIf .z n
  | .call_a16 n => .call n 24
  | .adc_a_d8 n => .alu .adc (.imm n)
  | .jp_nc_a16 n => .jumpIf .nc (.abs n) 16 12
  | .call_nc_a16 n => .callIf .nc n
  | .sub_a_d8 n => .alu .sub (.imm n)
  | .jp_c_a16 n => .jumpIf .c (.abs n) 16 12
  | .call_c_a16 n => .callIf .c n
  | .sbc_a_d8 n => .alu .sbc (.imm n)
  | .ldh_at_a8_a n => .stA (.high n) 12
  | .and_a_d8 n => .alu .and (.imm n)
  | .add_sp_r8 n => .spPlus .sp n 16
  | .ld_at_a16_a n => .stA (.abs n) 16
  | .xor_a_d8 n => .alu .xor (.imm n)
  | .ldh_a_at_a8 n => .ldA (.high n) 12
  | .or_a_d8 n => .alu .or (.imm n)
  | .ld_hl_sp_r8 n => .spPlus .hl n 12
  | .ld_a_at_a16 n => .ldA (.abs n) 16
  | .cp_a_d8 n => .alu .cp (.imm n)
  | .nop => .nop
  | .ld_at_bc_a => .stA (.pair .bc) 8
  | .inc_bc => .incPair .bc
  | .inc_b => .inc (.reg .b)
  | .dec_b => .dec (.reg .b)
  | .rlca => .rlca
  | .add_hl_bc => .addHl .bc
  | .ld_a_at_bc => .ldA (.pair .bc) 8
  | .dec_bc => .decPair .bc
  | .inc_c => .inc (.reg .c)
  | .dec_c => .dec (.reg .c)
  | .rrca => .rrca
  | .ld_at_de_a => .stA (.pair .de) 8
  | .inc_de => .incPair .de
  | .inc_d => .inc (.reg .d)
  | .dec_d => .dec (.reg .d)
  | .rla => .rla
  | .add_hl_de => .addHl .de
  | .ld_a_at_de => .ldA (.pair .de) 8
  | .dec_de => .decPair .de
  | .inc_e => .inc (.reg .e)
  | .dec_e => .dec (.reg .e)
  | .rra => .rra
  | .ld_at_hli_a => .stHlInc
  | .inc_hl => .incPair .hl
  | .inc_h => .inc (.reg .h)
  | .dec_h => .dec (.reg .h)
  | .daa => .daa
  | .add_hl_hl => .addHl .hl
  | .ld_a_at_hli => .ldHlInc
  | .dec_hl => .decPair .hl
  | .inc_l => .inc (.reg .l)
  | .dec_l => .dec (.reg .l)
  | .cpl => .cpl
  | .ld_at_hld_a => .stHlDec
  | .inc_sp => .incPair .sp
  | .inc_at_hl => .inc .atHl
  | .dec_at_hl => .dec .atHl
  | .scf => .scf
  | .add_hl_sp => .addHl .sp
  | .ld_a_at_hld => .ldHlDec
  | .dec_sp => .decPair .sp
  | .inc_a => .inc (.reg .a)
  | .dec_a => .dec (.reg .a)
  | .ccf => .ccf
  | .ld_b_b => .ldRR .b .b
  | .ld_b_c => .ldRR .b .c
  | .ld_b_d => .ldRR .b .d
  | .ld_b_e => .ldRR .b .e
  | .ld_b_h => .ldRR .b .h
  | .ld_b_l => .ldRR .b .l
  | .ld_b_at_hl => .ldRAtHl .b
  | .ld_b_a => .ldRR .b .a
  | .ld_c_b => .ldRR .c .b
  | .ld_c_c => .ldRR .c .c
  | .ld_c_d => .ldRR .c .d
  | .ld_c_e => .ldRR .c .e
  | .ld_c_h => .ldRR .c .h
  | .ld_c_l => .ldRR .c .l
  | .ld_c_at_hl => .ldRAtHl .c
  | .ld_c_a => .ldRR .c .a
  | .ld_d_b => .ldRR .d .b
  | .ld_d_c => .ldRR .d .c
  | .ld_d_d => .ldRR .d .d
  | .ld_d_e => .ldRR .d .e
  | .ld_d_h => .ldRR .d .h
  | .ld_d_l => .ldRR .d .l
  | .ld_d_at_hl => .ldRAtHl .d
  | .ld_d_a => .ldRR .d .a
  | .ld_e_b => .ldRR .e .b
  | .ld_e_c => .ldRR .e .c
  | .ld_e_d => .ldRR .e .d
  | .ld_e_e => .ldRR .e .e
  | .ld_e_h => .ldRR .e .h
  | .ld_e_l => .ldRR .e .l
  | .ld_e_at_hl => .ldRAtHl .e
  | .ld_e_a => .ldRR .e .a
  | .ld_h_b => .ldRR .h .b
  | .ld_h_c => .ldRR .h .c
  | .ld_h_d => .ldRR .h .d
  | .ld_h_e => .ldRR .h .e
  | .ld_h_h => .ldRR .h .h
  | .ld_h_l => .ldRR .h .l
  | .ld_h_at_hl => .ldRAtHl .h
  | .ld_h_a => .ldRR .h .a
  | .ld_l_b => .ldRR .l .b
  | .ld_l_c => .ldRR .l .c
  | .ld_l_d => .ldRR .l .d
  | .ld_l_e => .ldRR .l .e
  | .ld_l_h => .ldRR .l .h
  | .ld_l_l => .ldRR .l .l
  | .ld_l_at_hl => .ldRAtHl .l
  | .ld_l_a => .ldRR .l .a
  | .ld_at_hl_b => .ldAtHlR .b
  | .ld_at_hl_c => .ldAtHlR .c
  | .ld_at_hl_d => .ldAtHlR .d
  | .ld_at_hl_e => .ldAtHlR .e
  | .ld_at_hl_h => .ldAtHlR .h
  | .ld_at_hl_l => .ldAtHlR .l
  | .halt => .halt
  | .ld_at_hl_a => .ldAtHlR .a
  | .ld_a_b => .ldRR .a .b
  | .ld_a_c => .ldRR .a .c
  | .ld_a_d => .ldRR .a .d
  | .ld_a_e => .ldRR .a .e
  | .ld_a_h => .ldRR .a .h
  | .ld_a_l => .ldRR .a .l
  | .ld_a_at_hl => .ldRAtHl .a
  | .ld_a_a => .ldRR .a .a
  | .add_a_b => .alu .add (.operand (.reg .b))
  | .add_a_c => .alu .add (.operand (.reg .c))
  | .add_a_d => .alu .add (.operand (.reg .d))
  | .add_a_e => .alu .add (.operand (.reg .e))
  | .add_a_h => .alu .add (.operand (.reg .h))
  | .add_a_l => .alu .add (.operand (.reg .l))
  | .add_a_at_hl => .alu .add (.operand .atHl)
  | .add_a_a => .alu .add (.operand (.reg .a))
  | .adc_a_b => .alu .adc (.operand (.reg .b))
  | .adc_a_c => .alu .adc (.operand (.reg .c))
  | .adc_a_d => .alu .adc (.operand (.reg .d))
  | .adc_a_e => .alu .adc (.operand (.reg .e))
  | .adc_a_h => .alu .adc (.operand (.reg .h))
  | .adc_a_l => .alu .adc (.operand (.reg .l))
  | .adc_a_at_hl => .alu .adc (.operand .atHl)
  | .adc_a_a => .alu .adc (.operand (.reg .a))
  | .sub_a_b => .alu .sub (.operand (.reg .b))
  | .sub_a_c => .alu .sub (.operand (.reg .c))
  | .sub_a_d => .alu .sub (.operand (.reg .d))
  | .sub_a_e => .alu .sub (.operand (.reg .e))
  | .sub_a_h => .alu .sub (.operand (.reg .h))
  | .sub_a_l => .alu .sub (.operand (.reg .l))
  | .sub_a_at_hl => .alu .sub (.operand .atHl)
  | .sub_a_a => .alu .sub (.operand (.reg .a))
  | .sbc_a_b => .alu .sbc (.operand (.reg .b))
  | .sbc_a_c => .alu .sbc (.operand (.reg .c))
  | .sbc_a_d => .alu .sbc (.operand (.reg .d))
  | .sbc_a_e => .alu .sbc (.operand (.reg .e))
  | .sbc_a_h => .alu .sbc (.operand (.reg .h))
  | .sbc_a_l => .alu .sbc (.operand (.reg .l))
  | .sbc_a_at_hl => .alu .sbc (.operand .atHl)
  | .sbc_a_a => .alu .sbc (.operand (.reg .a))
  | .and_a_b => .alu .and (.operand (.reg .b))
  | .and_a_c => .alu .and (.operand (.reg .c))
  | .and_a_d => .alu .and (.operand (.reg .d))
  | .and_a_e => .alu .and (.operand (.reg .e))
  | .and_a_h => .alu .and (.operand (.reg .h))
  | .and_a_l => .alu .and (.operand (.reg .l))
  | .and_a_at_hl => .alu .and (.operand .atHl)
  | .and_a_a => .alu .and (.operand (.reg .a))
  | .xor_a_b => .alu .xor (.operand (.reg .b))
  | .xor_a_c => .alu .xor (.operand (.reg .c))
  | .xor_a_d => .alu .xor (.operand (.reg .d))
  | .xor_a_e => .alu .xor (.operand (.reg .e))
  | .xor_a_h => .alu .xor (.operand (.reg .h))
  | .xor_a_l => .alu .xor (.operand (.reg .l))
  | .xor_a_at_hl => .alu .xor (.operand .atHl)
  | .xor_a_a => .alu .xor (.operand (.reg .a))
  | .or_a_b => .alu .or (.operand (.reg .b))
  | .or_a_c => .alu .or (.operand (.reg .c))
  | .or_a_d => .alu .or (.operand (.reg .d))
  | .or_a_e => .alu .or (.operand (.reg .e))
  | .or_a_h => .alu .or (.operand (.reg .h))
  | .or_a_l => .alu .or (.operand (.reg .l))
  | .or_a_at_hl => .alu .or (.operand .atHl)
  | .or_a_a => .alu .or (.operand (.reg .a))
  | .cp_a_b => .alu .cp (.operand (.reg .b))
  | .cp_a_c => .alu .cp (.operand (.reg .c))
  | .cp_a_d => .alu .cp (.operand (.reg .d))
  | .cp_a_e => .alu .cp (.operand (.reg .e))
  | .cp_a_h => .alu .cp (.operand (.reg .h))
  | .cp_a_l => .alu .cp (.operand (.reg .l))
  | .cp_a_at_hl => .alu .cp (.operand .atHl)
  | .cp_a_a => .alu .cp (.operand (.reg .a))
  | .ret_nz => .retIf .nz
  | .pop_bc => .pop .bc
  | .push_bc => .push .bc
  | .rst_00 => .call (rstTarget 0) 16
  | .ret_z => .retIf .z
  | .ret => .ret
  | .rst_08 => .call (rstTarget 1) 16
  | .ret_nc => .retIf .nc
  | .pop_de => .pop .de
  | .hole_d3 => .unimplemented 0xD3
  | .push_de => .push .de
  | .rst_10 => .call (rstTarget 2) 16
  | .ret_c => .retIf .c
  | .reti => .reti
  | .hole_db => .unimplemented 0xDB
  | .hole_dd => .unimplemented 0xDD
  | .rst_18 => .call (rstTarget 3) 16
  | .pop_hl => .pop .hl
  | .ld_at_c_a => .stA .highC 8
  | .hole_e3 => .unimplemented 0xE3
  | .hole_e4 => .unimplemented 0xE4
  | .push_hl => .push .hl
  | .rst_20 => .call (rstTarget 4) 16
  | .jp_at_hl => .jump .hl 4
  | .hole_eb => .unimplemented 0xEB
  | .hole_ec => .unimplemented 0xEC
  | .hole_ed => .unimplemented 0xED
  | .rst_28 => .call (rstTarget 5) 16
  | .pop_af => .pop .af
  | .ld_a_at_c => .ldA .highC 8
  | .di => .di
  | .hole_f4 => .unimplemented 0xF4
  | .push_af => .push .af
  | .rst_30 => .call (rstTarget 6) 16
  | .ld_sp_hl => .ldSpHl
  | .ei => .ei
  | .hole_fc => .unimplemented 0xFC
  | .hole_fd => .unimplemented 0xFD
  | .rst_38 => .call (rstTarget 7) 16
  | .rlc_b => .rot .rlc (.reg .b)
  | .rlc_c => .rot .rlc (.reg .c)
  | .rlc_d => .rot .rlc (.reg .d)
  | .rlc_e => .rot .rlc (.reg .e)
  | .rlc_h => .rot .rlc (.reg .h)
  | .rlc_l => .rot .rlc (.reg .l)
  | .rlc_at_hl => .rot .rlc .atHl
  | .rlc_a => .rot .rlc (.reg .a)
  | .rrc_b => .rot .rrc (.reg .b)
  | .rrc_c => .rot .rrc (.reg .c)
  | .rrc_d => .rot .rrc (.reg .d)
  | .rrc_e => .rot .rrc (.reg .e)
  | .rrc_h => .rot .rrc (.reg .h)
  | .rrc_l => .rot .rrc (.reg .l)
  | .rrc_at_hl => .rot .rrc .atHl
  | .rrc_a => .rot .rrc (.reg .a)
  | .rl_b => .rot .rl (.reg .b)
  | .rl_c => .rot .rl (.reg .c)
  | .rl_d => .rot .rl (.reg .d)
  | .rl_e => .rot .rl (.reg .e)
  | .rl_h => .rot .rl (.reg .h)
  | .rl_l => .rot .rl (.reg .l)
  | .rl_at_hl => .rot .rl .atHl
  | .rl_a => .rot .rl (.reg .a)
  | .rr_b => .rot .rr (.reg .b)
  | .rr_c => .rot .rr (.reg .c)
  | .rr_d => .rot .rr (.reg .d)
  | .rr_e => .rot .rr (.reg .e)
  | .rr_h => .rot .rr (.reg .h)
  | .rr_l => .rot .rr (.reg .l)
  | .rr_at_hl => .rot .rr .atHl
  | .rr_a => .rot .rr (.reg .a)
  | .sla_b => .rot .sla (.reg .b)
  | .sla_c => .rot .sla (.reg .c)
  | .sla_d => .rot .sla (.reg .d)
  | .sla_e => .rot .sla (.reg .e)
  | .sla_h => .rot .sla (.reg .h)
  | .sla_l => .rot .sla (.reg .l)
  | .sla_at_hl => .rot .sla .atHl
  | .sla_a => .rot .sla (.reg .a)
  | .sra_b => .rot .sra (.reg .b)
  | .sra_c => .rot .sra (.reg .c)
  | .sra_d => .rot .sra (.reg .d)
  | .sra_e => .rot .sra (.reg .e)
  | .sra_h => .rot .sra (.reg .h)
  | .sra_l => .rot .sra (.reg .l)
  | .sra_at_hl => .rot .sra .atHl
  | .sra_a => .rot .sra (.reg .a)
  | .swap_b => .rot .swap (.reg .b)
  | .swap_c => .rot .swap (.reg .c)
  | .swap_d => .rot .swap (.reg .d)
  | .swap_e => .rot .swap (.reg .e)
  | .swap_h => .rot .swap (.reg .h)
  | .swap_l => .rot .swap (.reg .l)
  | .swap_at_hl => .rot .swap .atHl
  | .swap_a => .rot .swap (.reg .a)
  | .srl_b => .rot .srl (.reg .b)
  | .srl_c => .rot .srl (.reg .c)
  | .srl_d => .rot .srl (.reg .d)
  | .srl_e => .rot .srl (.reg .e)
  | .srl_h => .rot .srl (.reg .h)
  | .srl_l => .rot .srl (.reg .l)
  | .srl_at_hl => .rot .srl .atHl
  | .srl_a => .rot .srl (.reg .a)
  | .bit_0_b => .bit 0 (.reg .b)
  | .bit_0_c => .bit 0 (.reg .c)
  | .bit_0_d => .bit 0 (.reg .d)
  | .bit_0_e => .bit 0 (.reg .e)
  | .bit_0_h => .bit 0 (.reg .h)
  | .bit_0_l => .bit 0 (.reg .l)
  | .bit_0_at_hl => .bit 0 .atHl
  | .bit_0_a => .bit 0 (.reg .a)
  | .bit_1_b => .bit 1 (.reg .b)
  | .bit_1_c => .bit 1 (.reg .c)
  | .bit_1_d => .bit 1 (.reg .d)
  | .bit_1_e => .bit 1 (.reg .e)
  | .bit_1_h => .bit 1 (.reg .h)
  | .bit_1_l => .bit 1 (.reg .l)
  | .bit_1_at_hl => .bit 1 .atHl
  | .bit_1_a => .bit 1 (.reg .a)
  | .bit_2_b => .bit 2 (.reg .b)
  | .bit_2_c => .bit 2 (.reg .c)
  | .bit_2_d => .bit 2 (.reg .d)
  | .bit_2_e => .bit 2 (.reg .e)
  | .bit_2_h => .bit 2 (.reg .h)
  | .bit_2_l => .bit 2 (.reg .l)
  | .bit_2_at_hl => .bit 2 .atHl
  | .bit_2_a => .bit 2 (.reg .a)
  | .bit_3_b => .bit 3 (.reg .b)
  | .bit_3_c => .bit 3 (.reg .c)
  | .bit_3_d => .bit 3 (.reg .d)
  | .bit_3_e => .bit 3 (.reg .e)
  | .bit_3_h => .bit 3 (.reg .h)
  | .bit_3_l => .bit 3 (.reg .l)
  | .bit_3_at_hl => .bit 3 .atHl
  | .bit_3_a => .bit 3 (.reg .a)
  | .bit_4_b => .bit 4 (.reg .b)
  | .bit_4_c => .bit 4 (.reg .c)
  | .bit_4_d => .bit 4 (.reg .d)
  | .bit_4_e => .bit 4 (.reg .e)
  | .bit_4_h => .bit 4 (.reg .h)
  | .bit_4_l => .bit 4 (.reg .l)
  | .bit_4_at_hl => .bit 4 .atHl
  | .bit_4_a => .bit 4 (.reg .a)
  | .bit_5_b => .bit 5 (.reg .b)
  | .bit_5_c => .bit 5 (.reg .c)
  | .bit_5_d => .bit 5 (.reg .d)
  | .bit_5_e => .bit 5 (.reg .e)
  | .bit_5_h => .bit 5 (.reg .h)
  | .bit_5_l => .bit 5 (.reg .l)
  | .bit_5_at_hl => .bit 5 .atHl
  | .bit_5_a => .bit 5 (.reg .a)
  | .bit_6_b => .bit 6 (.reg .b)
  | .bit_6_c => .bit 6 (.reg .c)
  | .bit_6_d => .bit 6 (.reg .d)
  | .bit_6_e => .bit 6 (.reg .e)
  | .bit_6_h => .bit 6 (.reg .h)
  | .bit_6_l => .bit 6 (.reg .l)
  | .bit_6_at_hl => .bit 6 .atHl
  | .bit_6_a => .bit 6 (.reg .a)
  | .bit_7_b => .bit 7 (.reg .b)
  | .bit_7_c => .bit 7 (.reg .c)
  | .bit_7_d => .bit 7 (.reg .d)
  | .bit_7_e => .bit 7 (.reg .e)
  | .bit_7_h => .bit 7 (.reg .h)
  | .bit_7_l => .bit 7 (.reg .l)
  | .bit_7_at_hl => .bit 7 .atHl
  | .bit_7_a => .bit 7 (.reg .a)
  | .res_0_b => .res 0 (.reg .b)
  | .res_0_c => .res 0 (.reg .c)
  | .res_0_d => .res 0 (.reg .d)
  | .res_0_e => .res 0 (.reg .e)
  | .res_0_h => .res 0 (.reg .h)
  | .res_0_l => .res 0 (.reg .l)
  | .res_0_at_hl => .res 0 .atHl
  | .res_0_a => .res 0 (.reg .a)
  | .res_1_b => .res 1 (.reg .b)
  | .res_1_c => .res 1 (.reg .c)
  | .res_1_d => .res 1 (.reg .d)
  | .res_1_e => .res 1 (.reg .e)
  | .res_1_h => .res 1 (.reg .h)
  | .res_1_l => .res 1 (.reg .l)
  | .res_1_at_hl => .res 1 .atHl
  | .res_1_a => .res 1 (.reg .a)
  | .res_2_b => .res 2 (.reg .b)
  | .res_2_c => .res 2 (.reg .c)
  | .res_2_d => .res 2 (.reg .d)
  | .res_2_e => .res 2 (.reg .e)
  | .res_2_h => .res 2 (.reg .h)
  | .res_2_l => .res 2 (.reg .l)
  | .res_2_at_hl => .res 2 .atHl
  | .res_2_a => .res 2 (.reg .a)
  | .res_3_b => .res 3 (.reg .b)
  | .res_3_c => .res 3 (.reg .c)
  | .res_3_d => .res 3 (.reg .d)
  | .res_3_e => .res 3 (.reg .e)
  | .res_3_h => .res 3 (.reg .h)
  | .res_3_l => .res 3 (.reg .l)
  | .res_3_at_hl => .res 3 .atHl
  | .res_3_a => .res 3 (.reg .a)
  | .res_4_b => .res 4 (.reg .b)
  | .res_4_c => .res 4 (.reg .c)
  | .res_4_d => .res 4 (.reg .d)
  | .res_4_e => .res 4 (.reg .e)
  | .res_4_h => .res 4 (.reg .h)
  | .res_4_l => .res 4 (.reg .l)
  | .res_4_at_hl => .res 4 .atHl
  | .res_4_a => .res 4 (.reg .a)
  | .res_5_b => .res 5 (.reg .b)
  | .res_5_c => .res 5 (.reg .c)
  | .res_5_d => .res 5 (.reg .d)
  | .res_5_e => .res 5 (.reg .e)
  | .res_5_h => .res 5 (.reg .h)
  | .res_5_l => .res 5 (.reg .l)
  | .res_5_at_hl => .res 5 .atHl
  | .res_5_a => .res 5 (.reg .a)
  | .res_6_b => .res 6 (.reg .b)
  | .res_6_c => .res 6 (.reg .c)
  | .res_6_d => .res 6 (.reg .d)
  | .res_6_e => .res 6 (.reg .e)
  | .res_6_h => .res 6 (.reg .h)
  | .res_6_l => .res 6 (.reg .l)
  | .res_6_at_hl => .res 6 .atHl
  | .res_6_a => .res 6 (.reg .a)
  | .res_7_b => .res 7 (.reg .b)
  | .res_7_c => .res 7 (.reg .c)
  | .res_7_d => .res 7 (.reg .d)
  | .res_7_e => .res 7 (.reg .e)
  | .res_7_h => .res 7 (.reg .h)
  | .res_7_l => .res 7 (.reg .l)
  | .res_7_at_hl => .res 7 .atHl
  | .res_7_a => .res 7 (.reg .a)
  | .set_0_b => .set 0 (.reg .b)
  | .set_0_c => .set 0 (.reg .c)
  | .set_0_d => .set 0 (.reg .d)
  | .set_0_e => .set 0 (.reg .e)
  | .set_0_h => .set 0 (.reg .h)
  | .set_0_l => .set 0 (.reg .l)
  | .set_0_at_hl => .set 0 .atHl
  | .set_0_a => .set 0 (.reg .a)
  | .set_1_b => .set 1 (.reg .b)
  | .set_1_c => .set 1 (.reg .c)
  | .set_1_d => .set 1 (.reg .d)
  | .set_1_e => .set 1 (.reg .e)
  | .set_1_h => .set 1 (.reg .h)
  | .set_1_l => .set 1 (.reg .l)
  | .set_1_at_hl => .set 1 .atHl
  | .set_1_a => .set 1 (.reg .a)
  | .set_2_b => .set 2 (.reg .b)
  | .set_2_c => .set 2 (.reg .c)
  | .set_2_d => .set 2 (.reg .d)
  | .set_2_e => .set 2 (.reg .e)
  | .set_2_h => .set 2 (.reg .h)
  | .set_2_l => .set 2 (.reg .l)
  | .set_2_at_hl => .set 2 .atHl
  | .set_2_a => .set 2 (.reg .a)
  | .set_3_b => .set 3 (.reg .b)
  | .set_3_c => .set 3 (.reg .c)
  | .set_3_d => .set 3 (.reg .d)
  | .set_3_e => .set 3 (.reg .e)
  | .set_3_h => .set 3 (.reg .h)
  | .set_3_l => .set 3 (.reg .l)
  | .set_3_at_hl => .set 3 .atHl
  | .set_3_a => .set 3 (.reg .a)
  | .set_4_b => .set 4 (.reg .b)
  | .set_4_c => .set 4 (.reg .c)
  | .set_4_d => .set 4 (.reg .d)
  | .set_4_e => .set 4 (.reg .e)
  | .set_4_h => .set 4 (.reg .h)
  | .set_4_l => .set 4 (.reg .l)
  | .set_4_at_hl => .set 4 .atHl
  | .set_4_a => .set 4 (.reg .a)
  | .set_5_b => .set 5 (.reg .b)
  | .set_5_c => .set 5 (.reg .c)
  | .set_5_d => .set 5 (.reg .d)
  | .set_5_e => .set 5 (.reg .e)
  | .set_5_h => .set 5 (.reg .h)
  | .set_5_l => .set 5 (.reg .l)
  | .set_5_at_hl => .set 5 .atHl
  | .set_5_a => .set 5 (.reg .a)
  | .set_6_b => .set 6 (.reg .b)
  | .set_6_c => .set 6 (.reg .c)
  | .set_6_d => .set 6 (.reg .d)
  | .set_6_e => .set 6 (.reg .e)
  | .set_6_h => .set 6 (.reg .h)
  | .set_6_l => .set 6 (.reg .l)
  | .set_6_at_hl => .set 6 .atHl
  | .set_6_a => .set 6 (.reg .a)
  | .set_7_b => .set 7 (.reg .b)
  | .set_7_c => .set 7 (.reg .c)
  | .set_7_d => .set 7 (.reg .d)
  | .set_7_e => .set 7 (.reg .e)
  | .set_7_h => .set 7 (.reg .h)
  | .set_7_l => .set 7 (.reg .l)
  | .set_7_at_hl => .set 7 .atHl
  | .set_7_a => .set 7 (.reg .a)

theorem cbRule_eq (cb : Byte) (s : State) : cbRule cb s = .next ((cbShape cb).post s) := by
  unfold cbRule cbShape
  match fieldX cb with
  | 0 => rfl
  | 1 => rfl
  | 2 => rfl
  | _ + 3 => rfl

theorem jumpIf_eq (cc : Cond) (f : TargetForm) (k k' : Nat) (s : State) :
    jumpIf (s.cond cc) (f.target s) k k' s = .next (Shape.post s (.jumpIf cc f k k')) := by
  cases h : s.cond cc <;> simp [Shape.post, jumpIf, jump, done, State.count, h]

theorem callIf_eq (cc : Cond) (t : Word) (s : State) :
    (if s.cond cc then call t 24 s else done 12 s) = .next (Shape.post s (.callIf cc t)) := by
  cases h : s.cond cc <;> simp [Shape.post, call, done, State.count, State.called, h]

theorem retIf_eq (cc : Cond) (s : State) :
    (if s.cond cc then returnTo 20 s else done 8 s) = .next (Shape.post s (.retIf cc)) := by
  cases h : s.cond cc <;> simp [Shape.post, returnTo, done, State.count, State.popPc, h]

/-- What `exec` answers: the next state of the instruction's shape. -/
theorem exec_eq_post (i : Instr) (s : State) : exec i s = .next ((shapeOf i).post s) := by
  cases i <;>
    first
    | rfl
    | exact cbRule_eq _ s
    | exact jumpIf_eq _ (.rel _) 12 8 s
    | exact jumpIf_eq _ (.abs _) 16 12 s
    | exact callIf_eq _ _ s
    | exact retIf_eq _ s

/-- The inversion of `exec`. -/
theorem exec_inv {i : Instr} {s t : State} (h : exec i s = .next t) : t = (shapeOf i).post s := by
  rw [exec_eq_post] at h
  exact (Host.Outcome.next.inj h).symm

end Sys2Proof.Machine
end

