-- ==== Sys2Proof/Laws/Exec.lean ====
section
/-! SUPPORT. What every instruction keeps, shape by shape, what it stores, and the inversion of a step of the machine. -/

namespace Sys2Proof.Machine

/-! ## Fields every instruction keeps -/

theorem Shape.post_others (sh : Shape) (s : State) : sameOthers s (sh.post s) := by
  cases sh <;> simp only [Shape.post] <;> (try split_ifs) <;>
    simp [sameOthers, State.rotatedA, State.writeOut, State.called, State.popPc, State.count]

theorem Shape.post_rom (sh : Shape) (s : State) : (sh.post s).rom = s.rom ∧ (sh.post s).romBanks = s.romBanks := by
  cases sh <;> simp only [Shape.post] <;> (try split_ifs) <;>
    simp [State.rotatedA, State.writeOut, State.called, State.popPc, State.count]

/-! ## The stores of an instruction -/

/-- The memory a write leaves depends only on the memory before it and the parameters. -/
theorem State.write_congr {s t : State} (h : sameMemory s t) (hc : t.cfg = s.cfg) (a : Word) (v : Byte) :
    sameMemory (s.write a v) (t.write a v) := by
  obtain ⟨hb, hr, hk, hm, hn⟩ := h
  simp only [sameMemory, State.write_rom, State.write_romBanks, hr, hn]
  unfold State.write State.mapperWrite State.cartRamWrite State.cartRamOffset State.setDirect State.direct
  rw [hm, hc]
  split_ifs <;> cases s.mapper <;> simp only [hb, hk, hm] <;> (try split) <;> simp_all

/-- What a push stores. -/
def pushStores (s : State) (v : Word) : List (Word × Byte) := [(s.sp - 1, hiByte v), (s.sp - 2, loByte v)]

theorem State.push16_sameMemory (s : State) (v : Word) : sameMemory (s.writes (pushStores s v)) (s.push16 v) := by
  unfold State.push16 State.writes pushStores
  simp only [List.foldl, State.write_sp]
  have h2 : s.sp - 1 - 1 = s.sp - 2 := by bv_omega
  rw [h2]
  refine State.write_congr ?_ (by simp) _ _
  have := State.write_congr (s := s) (t := { s with sp := s.sp - 1 }) ⟨rfl, rfl, rfl, rfl, rfl⟩ rfl (s.sp - 1) (hiByte v)
  exact this

/-- What an `r` operand's write stores. -/
def operandStores (s : State) (o : Operand8) (v : Byte) : List (Word × Byte) :=
  match o with
  | .reg _ => []
  | .atHl => [(s.pair .hl, v)]

/-- What each shape stores, by address and value. -/
def Shape.stores (s : State) : Shape → List (Word × Byte)
  | .ldAtHlR r => [(s.pair .hl, s.reg r)]
  | .stHlImm n => [(s.pair .hl, n)]
  | .stA f _ => [(f.addr s, s.a)]
  | .stHlInc => [(s.pair .hl, s.a)]
  | .stHlDec => [(s.pair .hl, s.a)]
  | .stSp n => [(n, loByte s.sp), (n + 1, hiByte s.sp)]
  | .push p => pushStores s (s.stackPair p)
  | .inc o => operandStores s o (incOut (s.readR o) s.flagC).res
  | .dec o => operandStores s o (decOut (s.readR o) s.flagC).res
  | .rot op o => operandStores s o (rotOut s.cfg op (s.readR o) s.flagC).res
  | .res b o => operandStores s o (clearBit b (s.readR o))
  | .set b o => operandStores s o (setBit b (s.readR o))
  | .call _ _ => pushStores s s.pc
  | .callIf cc _ => if s.cond cc then pushStores s s.pc else []
  | _ => []

theorem State.writeR_sameMemory (s : State) (o : Operand8) (v : Byte) :
    sameMemory (s.writes (operandStores s o v)) (s.writeR o v) := by
  cases o <;> simp [sameMemory, State.writes, operandStores, State.writeR]

theorem sameMemory.refl (s : State) : sameMemory s s := ⟨rfl, rfl, rfl, rfl, rfl⟩

/-- Updates outside the memory. -/
theorem sameMemory.count {s t : State} (h : sameMemory s t) (n : Nat) : sameMemory s (t.count n) := h

theorem sameMemory.setFlags {s t : State} (h : sameMemory s t) (z n f c : Bool) : sameMemory s (t.setFlags z n f c) := h

theorem sameMemory.pc {s t : State} (h : sameMemory s t) (a : Word) : sameMemory s { t with pc := a } := h

/-- The memory after an instruction is the memory after its stores. -/
theorem Shape.post_sameMemory (sh : Shape) (s : State) : sameMemory (s.writes (sh.stores s)) (sh.post s) := by
  cases sh with
  | push p => exact (s.push16_sameMemory _).count _
  | inc o => exact ((s.writeR_sameMemory o _).setFlags _ _ _ _).count _
  | dec o => exact ((s.writeR_sameMemory o _).setFlags _ _ _ _).count _
  | rot op o => exact ((s.writeR_sameMemory o _).setFlags _ _ _ _).count _
  | res b o => exact (s.writeR_sameMemory o _).count _
  | set b o => exact (s.writeR_sameMemory o _).count _
  | call t k => exact ((s.push16_sameMemory _).pc _).count _
  | callIf cc t =>
    simp only [Shape.post, Shape.stores]
    split
    · exact ((s.push16_sameMemory _).pc _).count _
    · exact ⟨rfl, rfl, rfl, rfl, rfl⟩
  | jumpIf cc f k k' =>
    simp only [Shape.post, Shape.stores]
    split <;> exact ⟨rfl, rfl, rfl, rfl, rfl⟩
  | retIf cc =>
    simp only [Shape.post, Shape.stores]
    split <;> exact ⟨rfl, rfl, rfl, rfl, rfl⟩
  | ldRR dst r => cases dst <;> exact ⟨rfl, rfl, rfl, rfl, rfl⟩
  | ldRImm dst n => cases dst <;> exact ⟨rfl, rfl, rfl, rfl, rfl⟩
  | ldRAtHl dst => cases dst <;> exact ⟨rfl, rfl, rfl, rfl, rfl⟩
  | ldPair p n => cases p <;> exact ⟨rfl, rfl, rfl, rfl, rfl⟩
  | pop p => cases p <;> exact ⟨rfl, rfl, rfl, rfl, rfl⟩
  | spPlus p n k => cases p <;> exact ⟨rfl, rfl, rfl, rfl, rfl⟩
  | incPair p => cases p <;> exact ⟨rfl, rfl, rfl, rfl, rfl⟩
  | decPair p => cases p <;> exact ⟨rfl, rfl, rfl, rfl, rfl⟩
  | reti => simp [Shape.post, Shape.stores, sameMemory, State.writes, State.count]
  | _ => exact ⟨rfl, rfl, rfl, rfl, rfl⟩

/-! ## Invariants of the memory -/

theorem State.writes_cfg (s : State) (ws : List (Word × Byte)) : (s.writes ws).cfg = s.cfg := by
  unfold State.writes
  induction ws generalizing s with
  | nil => rfl
  | cons w ws ih => simp [List.foldl, ih]

theorem State.writes_memoryWf (s : State) (ws : List (Word × Byte)) (h : s.memoryWf) : (s.writes ws).memoryWf := by
  unfold State.writes
  induction ws generalizing s with
  | nil => exact h
  | cons w ws ih => exact ih _ (s.write_memoryWf w.1 w.2 h)

theorem State.writes_bankOk (s : State) (ws : List (Word × Byte)) (h : s.bankOk) : (s.writes ws).bankOk := by
  unfold State.writes
  induction ws generalizing s with
  | nil => exact h
  | cons w ws ih => exact ih _ (s.write_bankOk w.1 w.2 h)

theorem State.stat_low_writes (s : State) (ws : List (Word × Byte)) :
    (s.writes ws).direct 0xFF41 &&& 0x07 = s.direct 0xFF41 &&& 0x07 := by
  unfold State.writes
  induction ws generalizing s with
  | nil => rfl
  | cons w ws ih => exact (ih _).trans (s.stat_low_write w.1 w.2)

theorem Shape.post_memoryWf (sh : Shape) (s : State) (h : s.memoryWf) : (sh.post s).memoryWf := by
  obtain ⟨hb, hr, hk, -, -⟩ := sh.post_sameMemory s
  have := s.writes_memoryWf (sh.stores s) h
  simpa [State.memoryWf, hb, hr, hk] using this

theorem Shape.post_bankOk (sh : Shape) (s : State) (h : s.bankOk) : (sh.post s).bankOk := by
  obtain ⟨-, -, -, hm, -⟩ := sh.post_sameMemory s
  have := s.writes_bankOk (sh.stores s) h
  simpa [State.bankOk, hm] using this

theorem Shape.post_stat_low (sh : Shape) (s : State) :
    (sh.post s).direct 0xFF41 &&& 0x07 = s.direct 0xFF41 &&& 0x07 := by
  rw [State.direct_congr (sh.post_sameMemory s).1]
  exact s.stat_low_writes _

/-! ## Flags -/

theorem packF_clean (z n h c : Bool) : packF z n h c &&& 15#8 = 0#8 := by
  cases z <;> cases n <;> cases h <;> cases c <;> rfl

theorem writeF_clean (v : Byte) : v &&& 240#8 &&& 15#8 = 0#8 := by
  ext i hi
  rcases i with _ | _ | _ | _ | _ | _ | _ | _ | i <;> simp
  omega

theorem Shape.post_flagsClean (sh : Shape) (s : State) (h : s.flagsClean) : (sh.post s).flagsClean := by
  have h : s.f &&& 15#8 = 0#8 := h
  cases sh with
  | pop p =>
    cases p <;> simp [Shape.post, State.flagsClean, State.count, State.setStackPair, State.writeF, writeF_clean, h]
  | _ =>
    simp only [Shape.post] <;> (try split_ifs) <;>
      simp [State.flagsClean, State.count, State.rotatedA, State.writeOut, State.called, State.popPc, packF_clean, h]

/-! ## Control state -/

/-- Which shapes take the fatal fault. -/
def Shape.isFatal : Shape → Bool
  | .unimplemented _ => true
  | _ => false

theorem Shape.post_fault (sh : Shape) (s : State) (h : sh.isFatal = false) : (sh.post s).fault = s.fault := by
  cases sh with
  | unimplemented op => simp [Shape.isFatal] at h
  | _ =>
    simp only [Shape.post] <;> (try split_ifs) <;>
      simp [State.count, State.rotatedA, State.writeOut, State.called, State.popPc]

theorem Shape.post_returned (sh : Shape) (s : State) (h : sh.isFatal = false) : ∃ n, (sh.post s).returned = some n := by
  cases sh with
  | unimplemented op => simp [Shape.isFatal] at h
  | _ => simp only [Shape.post] <;> (try split_ifs) <;> exact ⟨_, rfl⟩

theorem Shape.post_halted (sh : Shape) (s : State) (h : sh ≠ .halt) : (sh.post s).halted = s.halted := by
  cases sh with
  | halt => exact absurd rfl h
  | _ =>
    simp only [Shape.post] <;> (try split_ifs) <;>
      simp [State.count, State.rotatedA, State.writeOut, State.called, State.popPc]

/-- EIP is set by EI, and by RETI under `RETI_MODE = delayed`; no instruction clears it. -/
theorem Shape.post_eip (sh : Shape) (s : State) (h1 : sh ≠ .ei) (h2 : sh ≠ .reti) : (sh.post s).eip = s.eip := by
  cases sh with
  | ei => exact absurd rfl h1
  | reti => exact absurd rfl h2
  | _ =>
    simp only [Shape.post] <;> (try split_ifs) <;>
      simp [State.count, State.rotatedA, State.writeOut, State.called, State.popPc]

/-- IME is cleared by DI and set by RETI only. -/
theorem Shape.post_ime (sh : Shape) (s : State) (h1 : sh ≠ .di) (h2 : sh ≠ .reti) : (sh.post s).ime = s.ime := by
  cases sh with
  | di => exact absurd rfl h1
  | reti => exact absurd rfl h2
  | _ =>
    simp only [Shape.post] <;> (try split_ifs) <;>
      simp [State.count, State.rotatedA, State.writeOut, State.called, State.popPc]

/-! ## The shapes of single instructions -/

theorem shapeOf_isFatal (i : Instr) (hp : i.notBarePrefix = true) : (shapeOf i).isFatal = neverAdmitted i := by
  cases i <;> first | rfl | simp [Instr.notBarePrefix] at hp

theorem shapeOf_prefix_cb (cb : Byte) : shapeOf (.prefix_cb cb) = cbShape cb := rfl

theorem cbShape_cases (cb : Byte) :
    (∃ op o, cbShape cb = .rot op o) ∨ (∃ b o, cbShape cb = .bit b o) ∨ (∃ b o, cbShape cb = .res b o) ∨
    ∃ b o, cbShape cb = .set b o := by
  unfold cbShape
  split
  · exact .inl ⟨_, _, rfl⟩
  · exact .inr (.inl ⟨_, _, rfl⟩)
  · exact .inr (.inr (.inl ⟨_, _, rfl⟩))
  · exact .inr (.inr (.inr ⟨_, _, rfl⟩))

theorem cbShape_ne (cb : Byte) : cbShape cb ≠ .halt ∧ cbShape cb ≠ .ei ∧ cbShape cb ≠ .di ∧ cbShape cb ≠ .reti := by
  obtain ⟨_, _, h⟩ | ⟨_, _, h⟩ | ⟨_, _, h⟩ | ⟨_, _, h⟩ := cbShape_cases cb <;> simp [h]

theorem shapeOf_eq_halt {i : Instr} (h : shapeOf i = .halt) : i = .halt := by
  cases i <;> first
    | rfl
    | exact absurd h (cbShape_ne _).1
    | exact Shape.noConfusion h

theorem shapeOf_eq_reti {i : Instr} (h : shapeOf i = .reti) : i = .reti := by
  cases i <;> first
    | rfl
    | exact absurd h (cbShape_ne _).2.2.2
    | exact Shape.noConfusion h

theorem shapeOf_eq_ei {i : Instr} (h : shapeOf i = .ei) : i = .ei := by
  cases i <;> first
    | rfl
    | exact absurd h (cbShape_ne _).2.1
    | exact Shape.noConfusion h

theorem shapeOf_eq_di {i : Instr} (h : shapeOf i = .di) : i = .di := by
  cases i <;> first
    | rfl
    | exact absurd h (cbShape_ne _).2.2.1
    | exact Shape.noConfusion h

/-! ## A step of the machine -/

/-- The cases of a CPU step (30_encoding.md R118): a dispatch; a halted CPU waiting; the fatal fault of an opcode that is
not admitted; an admitted instruction. In the last two `u` is the state after the EI commit and the wake-up. -/
theorem State.cpuStep_cases {s t : State} (h : s.cpuStep = .next t) :
    (∃ k, s.dispatchable = some k ∧ t = (s.dispatch k).count 80) ∨
    (s.dispatchable = none ∧ s.commitEi.asleep = true ∧ s.commitEi.pending = 0 ∧ t = s.commitEi.count 4) ∨
    ∃ u, s.dispatchable = none ∧
      (s.commitEi.asleep = false ∧ u = s.commitEi ∨
        s.commitEi.asleep = true ∧ s.commitEi.pending ≠ 0 ∧ u = { s.commitEi with halted := false }) ∧
      (admits u.cfg u.fetched.opcode = true ∧ t = (shapeOf u.fetched).post (u.advance u.fetched.length) ∨
        admits u.cfg u.fetched.opcode = false ∧ t = (u.advance u.fetched.opcode.fetched).raiseFatal
          ⟨u.fetched.opcode.table, u.fetched.opcode.byte, u.pc⟩) := by
  have key : ∀ u : State, u.fetchExecute = .next t →
      (admits u.cfg u.fetched.opcode = true ∧ t = (shapeOf u.fetched).post (u.advance u.fetched.length) ∨
        admits u.cfg u.fetched.opcode = false ∧ t = (u.advance u.fetched.opcode.fetched).raiseFatal
          ⟨u.fetched.opcode.table, u.fetched.opcode.byte, u.pc⟩) := by
    intro u hu
    unfold State.fetchExecute at hu
    dsimp only at hu
    split at hu
    · rename_i ha
      exact .inl ⟨ha, exec_inv hu⟩
    · rename_i ha
      exact .inr ⟨by simpa using ha, (Host.Outcome.next.inj hu).symm⟩
  unfold State.cpuStep at h
  split at h
  · rename_i k hk
    exact .inl ⟨k, hk, (Host.Outcome.next.inj h).symm⟩
  · rename_i hk
    unfold State.wakeExecute at h
    split at h
    · rename_i ha
      split at h
      · rename_i hp
        exact .inr (.inl ⟨hk, ha, hp, (Host.Outcome.next.inj h).symm⟩)
      · rename_i hp
        exact .inr (.inr ⟨_, hk, .inr ⟨ha, hp, rfl⟩, key _ h⟩)
    · rename_i ha
      exact .inr (.inr ⟨_, hk, .inl ⟨by simpa using ha, rfl⟩, key _ h⟩)

/-- A CPU step always answers a next state. -/
theorem State.cpuStep_next (s : State) : ∃ t, s.cpuStep = .next t := by
  have key : ∀ u : State, ∃ t, u.fetchExecute = .next t := by
    intro u
    unfold State.fetchExecute
    dsimp only
    split
    · exact ⟨_, exec_eq_post _ _⟩
    · exact ⟨_, rfl⟩
  unfold State.cpuStep State.wakeExecute
  split
  · exact ⟨_, rfl⟩
  · split
    · split
      · exact ⟨_, rfl⟩
      · exact key _
    · exact key _

/-- The cases of a step: while FAULT is set there is none. -/
theorem step_cases {s t : State} (h : step s = .next t) :
    s.fault = none ∧ (s.nextAgent = .cpu ∧ s.usedChoice.cpuStep = .next t ∨
      s.nextAgent = .ppu ∧ t = s.usedChoice.ppuStep) := by
  unfold step at h
  split at h
  · exact absurd h (by simp)
  · rename_i hf
    refine ⟨hf, ?_⟩
    split at h
    · rename_i ha
      exact .inl ⟨ha, h⟩
    · rename_i ha
      exact .inr ⟨ha, (Host.Outcome.next.inj h).symm⟩

/-! ## What an instruction may store -/

theorem callIf_stored (cc : Cond) (s : State) (n : Word) :
    (if s.cond cc then pushedTo s else []) = (Shape.stores s (.callIf cc n)).map Prod.fst := by
  cases h : s.cond cc <;> simp [Shape.stores, pushedTo, pushStores, h]

theorem cb_stored (cb : Byte) (s : State) :
    (if fieldZ cb = 6 ∧ fieldX cb ≠ 1 then [s.pair .hl] else []) = ((cbShape cb).stores s).map Prod.fst := by
  have hz : fieldZ cb < 8 := Nat.mod_lt _ (by decide)
  unfold cbShape
  generalize fieldZ cb = z at *
  generalize fieldX cb = x at *
  rcases x with _ | _ | _ | x <;> interval_cases z <;> simp [Shape.stores, operandStores, rOf]

theorem storedTo_eq_0 (i : Instr) (s : State) (h : 0 ≤ i.ctorIdx ∧ i.ctorIdx < 130) :
    storedTo i s = ((shapeOf i).stores s).map Prod.fst := by
  cases i with
  | prefix_cb cb => exact cb_stored cb s
  | call_nz_a16 n => exact callIf_stored .nz s n
  | call_z_a16 n => exact callIf_stored .z s n
  | call_nc_a16 n => exact callIf_stored .nc s n
  | call_c_a16 n => exact callIf_stored .c s n
  | _ => first | exact absurd h (of_decide_eq_false rfl) | rfl

theorem storedTo_eq_1 (i : Instr) (s : State) (h : 130 ≤ i.ctorIdx ∧ i.ctorIdx < 260) :
    storedTo i s = ((shapeOf i).stores s).map Prod.fst := by
  cases i with
  | _ => first | exact absurd h (of_decide_eq_false rfl) | rfl

theorem storedTo_eq_2 (i : Instr) (s : State) (h : 260 ≤ i.ctorIdx ∧ i.ctorIdx < 390) :
    storedTo i s = ((shapeOf i).stores s).map Prod.fst := by
  cases i with
  | _ => first | exact absurd h (of_decide_eq_false rfl) | rfl

theorem storedTo_eq_3 (i : Instr) (s : State) (h : 390 ≤ i.ctorIdx ∧ i.ctorIdx < 512) :
    storedTo i s = ((shapeOf i).stores s).map Prod.fst := by
  cases i with
  | _ => first | exact absurd h (of_decide_eq_false rfl) | rfl

theorem ctorIdx_lt (i : Instr) : i.ctorIdx < 512 := by
  cases i <;> exact of_decide_eq_true rfl

/-- `storedTo` lists the addresses of the stores. -/
theorem storedTo_eq (i : Instr) (s : State) : storedTo i s = ((shapeOf i).stores s).map Prod.fst := by
  have := ctorIdx_lt i
  rcases Nat.lt_or_ge i.ctorIdx 260 with h | h
  · rcases Nat.lt_or_ge i.ctorIdx 130 with h' | h'
    · exact storedTo_eq_0 i s ⟨Nat.zero_le _, h'⟩
    · exact storedTo_eq_1 i s ⟨h', h⟩
  · rcases Nat.lt_or_ge i.ctorIdx 390 with h' | h'
    · exact storedTo_eq_2 i s ⟨h, h'⟩
    · exact storedTo_eq_3 i s ⟨h', this⟩

end Sys2Proof.Machine
end

