-- ==== Sys2Proof/Laws/Flags.lean ====
section
/-! SUPPORT. What each result and flag computation is in arithmetic: one lemma per function of Flags.lean, so that no proof
unfolds it. -/

namespace Sys2Proof.Machine

/-! ## Bits as numbers -/

theorem and_15 (n : Nat) : n &&& 15 = n % 16 := Nat.and_two_pow_sub_one_eq_mod n 4

theorem and_255 (n : Nat) : n &&& 255 = n % 256 := Nat.and_two_pow_sub_one_eq_mod n 8

theorem beq_zero_eq {w : Nat} (v : BitVec w) : (v == 0) = decide (v = 0) := by rw [Bool.eq_iff_iff]; simp

/-- Bit `k` as arithmetic. -/
theorem getLsbD_eq {w : Nat} (v : BitVec w) (k : Nat) : v.getLsbD k = decide (v.toNat / 2 ^ k % 2 = 1) := by
  rw [BitVec.getLsbD, Nat.testBit_eq_decide_div_mod_eq]

/-- A test of one bit by a mask. -/
theorem and_twoPow_beq {w : Nat} (v : BitVec w) (k : Nat) (h : k < w) :
    (v &&& BitVec.twoPow w k == BitVec.twoPow w k) = v.getLsbD k := by
  rw [Bool.eq_iff_iff, beq_iff_eq]
  constructor
  · intro he
    have := congrArg (·.getLsbD k) he
    simpa [BitVec.getLsbD_and, BitVec.getLsbD_twoPow, h] using this
  · intro hk
    ext i hi
    simp only [BitVec.getElem_and, BitVec.getElem_twoPow]
    by_cases hik : i = k
    · subst hik
      rw [← BitVec.getLsbD_eq_getElem, hk]
      simp
    · simp [hik]

theorem mask10 (v : Byte) : (v &&& 0x10 == 0x10) = decide (v.toNat / 16 % 2 = 1) := by
  have h := and_twoPow_beq v 4 (by decide)
  rw [getLsbD_eq] at h
  exact h

theorem xor_bit4 (a b c : Byte) : (a ^^^ b ^^^ c).toNat / 16 % 2 = (a.toNat / 16 + b.toNat / 16 + c.toNat / 16) % 2 := by
  have h : (a ^^^ b ^^^ c).getLsbD 4 = ((a.getLsbD 4 ^^ b.getLsbD 4) ^^ c.getLsbD 4) := by
    rw [BitVec.getLsbD_xor, BitVec.getLsbD_xor]
  rw [getLsbD_eq (a ^^^ b ^^^ c), getLsbD_eq a, getLsbD_eq b, getLsbD_eq c] at h
  simp only [Nat.reducePow] at h
  generalize (a ^^^ b ^^^ c).toNat / 16 = x at *
  generalize a.toNat / 16 = y at *
  generalize b.toNat / 16 = z at *
  generalize c.toNat / 16 = w at *
  rw [Nat.add_mod, Nat.add_mod y z]
  rcases Nat.mod_two_eq_zero_or_one x with hx | hx <;> rcases Nat.mod_two_eq_zero_or_one y with hy | hy <;>
    rcases Nat.mod_two_eq_zero_or_one z with hz | hz <;> rcases Nat.mod_two_eq_zero_or_one w with hw | hw <;>
    simp_all

/-! ## Addition and subtraction -/

theorem toNat_add8 (a b : Byte) (cin : Bool) : (add8 a b cin).1.toNat = (a.toNat + b.toNat + cin.toNat) % 256 := by
  simp [add8]

theorem add8_half (a b : Byte) (cin : Bool) :
    (add8 a b cin).2.1 = decide (15 < a.toNat % 16 + b.toNat % 16 + cin.toNat) := by
  simp [add8, and_15]

theorem add8_carry (a b : Byte) (cin : Bool) : (add8 a b cin).2.2 = decide (255 < a.toNat + b.toNat + cin.toNat) := rfl

theorem toNat_sub8 (a b : Byte) (cin : Bool) :
    (sub8 a b cin).1.toNat = (a.toNat + 512 - b.toNat - cin.toNat) % 256 := by
  have := a.isLt
  have := b.isLt
  cases cin <;> simp [sub8, BitVec.toNat_sub] <;> omega

theorem sub8_half (a b : Byte) (cin : Bool) :
    (sub8 a b cin).2.1 = decide (a.toNat % 16 < b.toNat % 16 + cin.toNat) := by
  simp [sub8, and_15]

theorem sub8_carry (a b : Byte) (cin : Bool) : (sub8 a b cin).2.2 = decide (a.toNat < b.toNat + cin.toNat) := rfl

/-- The half-carry of SUB, SBC and CP: the borrow from bit 4, or its complement (R262). -/
theorem hsub_sub8 (m : HsubMode) (a b : Byte) (cin : Bool) :
    hsub m a b (sub8 a b cin).1 (sub8 a b cin).2.1 =
      (decide (a.toNat % 16 < b.toNat % 16 + cin.toNat) == decide (m = .borrow)) := by
  cases m with
  | borrow => simp [hsub, sub8_half]
  | inverted =>
    simp only [hsub]
    rw [mask10, xor_bit4, toNat_sub8]
    have := a.isLt
    have := b.isLt
    have hn : (~~~b).toNat = 255 - b.toNat := by simp
    rw [hn]
    have hc : cin.toNat = 0 ∨ cin.toNat = 1 := by cases cin <;> simp
    rw [Bool.eq_iff_iff]
    simp only [reduceCtorEq, decide_false, beq_iff_eq, decide_eq_true_eq, decide_eq_false_iff_not]
    omega

/-! ## INC and DEC -/

theorem incOut_h (v : Byte) (c : Bool) : (incOut v c).h = decide (v.toNat % 16 = 15) := by
  simp only [incOut]
  rw [mask10, xor_bit4]
  have := v.isLt
  simp only [decide_eq_decide, BitVec.toNat_add]
  simp
  omega

theorem incOut_z (v : Byte) (c : Bool) : (incOut v c).z = decide (v.toNat = 255) := by
  simp only [incOut]
  rw [beq_zero_eq, decide_eq_decide, BitVec.toNat_eq]
  have := v.isLt
  simp
  omega

theorem incOut_res (v : Byte) (c : Bool) : (incOut v c).res = BitVec.ofNat 8 (v.toNat + 1) := by
  apply BitVec.eq_of_toNat_eq
  simp [incOut]

theorem decOut_h (v : Byte) (c : Bool) : (decOut v c).h = decide (v.toNat % 16 = 0) := by
  simp only [decOut]
  rw [mask10, xor_bit4]
  have := v.isLt
  simp only [decide_eq_decide, BitVec.toNat_sub]
  simp
  omega

theorem decOut_z (v : Byte) (c : Bool) : (decOut v c).z = decide (v.toNat = 1) := by
  simp only [decOut]
  rw [beq_zero_eq, decide_eq_decide, BitVec.toNat_eq]
  have := v.isLt
  simp [BitVec.toNat_sub]
  omega

theorem decOut_res (v : Byte) (c : Bool) : (decOut v c).res = BitVec.ofNat 8 (v.toNat + 255) := by
  apply BitVec.eq_of_toNat_eq
  simp [decOut, BitVec.toNat_sub]
  omega

/-! ## 16-bit additions -/

theorem xor_bit (k : Nat) (a b c : Word) :
    (a ^^^ b ^^^ c).toNat / 2 ^ k % 2 = (a.toNat / 2 ^ k + b.toNat / 2 ^ k + c.toNat / 2 ^ k) % 2 := by
  have h : (a ^^^ b ^^^ c).getLsbD k = ((a.getLsbD k ^^ b.getLsbD k) ^^ c.getLsbD k) := by
    rw [BitVec.getLsbD_xor, BitVec.getLsbD_xor]
  rw [getLsbD_eq (a ^^^ b ^^^ c), getLsbD_eq a, getLsbD_eq b, getLsbD_eq c] at h
  generalize (a ^^^ b ^^^ c).toNat / 2 ^ k = x at *
  generalize a.toNat / 2 ^ k = y at *
  generalize b.toNat / 2 ^ k = z at *
  generalize c.toNat / 2 ^ k = w at *
  rw [Nat.add_mod, Nat.add_mod y z]
  rcases Nat.mod_two_eq_zero_or_one x with hx | hx <;> rcases Nat.mod_two_eq_zero_or_one y with hy | hy <;>
    rcases Nat.mod_two_eq_zero_or_one z with hz | hz <;> rcases Nat.mod_two_eq_zero_or_one w with hw | hw <;>
    simp_all

theorem and_twoPow_bne {w : Nat} (v : BitVec w) (k : Nat) (h : k < w) :
    (v &&& BitVec.twoPow w k != 0) = v.getLsbD k := by
  rw [BitVec.and_twoPow]
  cases hk : v.getLsbD k
  · simp
  · have : BitVec.twoPow w k ≠ 0 := by
      intro he
      have := congrArg (·.getLsbD k) he
      simp [h] at this
    simpa using this

theorem toNat_addHl (cfg : Config) (hl v : Word) : (addHlOut cfg hl v).res.toNat = (hl.toNat + v.toNat) % 65536 := by
  simp [addHlOut]

theorem addHl_carry (cfg : Config) (hl v : Word) : (addHlOut cfg hl v).c = decide (65535 < hl.toNat + v.toNat) := rfl

/-- H of ADD HL,rr: the carry out of bit 11, or of bit 7 under the other mask (R302). -/
theorem addHl_half (cfg : Config) (hl v : Word) :
    (addHlOut cfg hl v).h =
      if cfg.addHlHMask = .mask1000 then decide (4095 < hl.toNat % 4096 + v.toNat % 4096)
      else decide (255 < hl.toNat % 256 + v.toNat % 256) := by
  have := hl.isLt
  have := v.isLt
  cases hm : cfg.addHlHMask with
  | mask1000 =>
    have h := and_twoPow_bne (hl ^^^ v ^^^ (hl + v)) 12 (by decide)
    rw [getLsbD_eq, xor_bit, BitVec.toNat_add] at h
    simp only [addHlOut, hm, hMaskBits, if_true]
    refine Eq.trans h ?_
    rw [decide_eq_decide]
    omega
  | mask0100 =>
    have h := and_twoPow_bne (hl ^^^ v ^^^ (hl + v)) 8 (by decide)
    rw [getLsbD_eq, xor_bit, BitVec.toNat_add] at h
    simp only [addHlOut, hm, hMaskBits, reduceCtorEq, if_false]
    refine Eq.trans h ?_
    rw [decide_eq_decide]
    omega

theorem spAdd_res (sp : Word) (e : Byte) : (spAdd sp e).res = BitVec.ofInt 16 ((sp.toNat : Int) + e.toInt) := by
  simp only [spAdd]
  rw [BitVec.ofInt_add, BitVec.signExtend]
  simp

theorem spAdd_half (sp : Word) (e : Byte) : (spAdd sp e).h = decide (15 < sp.toNat % 16 + e.toNat % 16) := by
  simp [spAdd, and_15]

theorem spAdd_carry (sp : Word) (e : Byte) : (spAdd sp e).c = decide (255 < sp.toNat % 256 + e.toNat) := by
  simp [spAdd, and_255]

/-! ## Rotates, shifts, SWAP -/

theorem getLsbD_7 (v : Byte) : v.getLsbD 7 = decide (128 ≤ v.toNat) := by
  have := v.isLt
  rw [getLsbD_eq, decide_eq_decide]
  omega

theorem getLsbD_0 (v : Byte) : v.getLsbD 0 = decide (v.toNat % 2 = 1) := by rw [getLsbD_eq]; simp

theorem rotL_res (v : Byte) (cin : Bool) : (rotL v cin).1.toNat = v.toNat * 2 % 256 + cin.toNat := by
  revert v cin
  decide

theorem rotR_res (v : Byte) (cin : Bool) : (rotR v cin).1.toNat = v.toNat / 2 + cin.toNat * 128 := by
  revert v cin
  decide

theorem rotLc_res (v : Byte) : (rotLc v).1.toNat = v.toNat * 2 % 256 + v.toNat / 128 := by
  revert v
  decide

theorem rotRc_res (v : Byte) : (rotRc v).1.toNat = v.toNat / 2 + v.toNat % 2 * 128 := by
  revert v
  decide

theorem shiftLa_res (v : Byte) : (shiftLa v).1.toNat = v.toNat * 2 % 256 := by
  revert v
  decide

theorem shiftRa_res (v : Byte) : (shiftRa v).1.toNat = v.toNat / 2 + v.toNat / 128 * 128 := by
  revert v
  decide

theorem shiftRl_res (v : Byte) : (shiftRl v).1.toNat = v.toNat / 2 := by
  revert v
  decide

theorem swapNibbles_res (v : Byte) : (swapNibbles v).toNat = v.toNat % 16 * 16 + v.toNat / 16 := by
  revert v
  decide

/-! ## RES and SET -/

theorem getLsbD_clearBit (b : Fin 8) (v : Byte) (k : Nat) :
    (clearBit b v).getLsbD k = (v.getLsbD k && decide (k ≠ b.val)) := by
  simp only [clearBit, ← BitVec.twoPow_eq, BitVec.getLsbD_and, BitVec.getLsbD_not, BitVec.getLsbD_twoPow]
  by_cases hk : k < 8
  · have := b.isLt
    by_cases he : b.val = k <;> simp [he, hk, Ne.symm]
  · simp [BitVec.getLsbD_of_ge v k (by omega)]

theorem getLsbD_setBit (b : Fin 8) (v : Byte) (k : Nat) :
    (setBit b v).getLsbD k = (v.getLsbD k || decide (k = b.val)) := by
  simp only [setBit, ← BitVec.twoPow_eq, BitVec.getLsbD_or, BitVec.getLsbD_twoPow]
  have := b.isLt
  by_cases he : b.val = k
  · simp [he]
    omega
  · simp [he, Ne.symm he]

end Sys2Proof.Machine
end

