-- ==== Sys2Proof/Laws/Families.lean ====
section
/-! SUPPORT. The families of the opcode map (30_encoding.md R114, R115): the shape, the bytes and the class of every member. -/

namespace Sys2Proof.Machine

@[simp] theorem shapeOf_ld_reg_reg (dst r : Reg8) : shapeOf (Instr.ld (.reg dst) (.reg r)) = .ldRR dst r := by
  cases dst <;> cases r <;> rfl

theorem encode_ld_reg_reg (dst r : Reg8) : encode (Instr.ld (.reg dst) (.reg r)) = opcodeByte (0x40 + 8 * regCode dst + regCode r) := by
  cases dst <;> cases r <;> rfl

theorem cls_ld_reg_reg (dst r : Reg8) : (Instr.ld (.reg dst) (.reg r)).opcode.cls = .named := by
  cases dst <;> cases r <;> rfl

@[simp] theorem shapeOf_ld_reg_atHl (dst : Reg8) : shapeOf (Instr.ld (.reg dst) .atHl) = .ldRAtHl dst := by
  cases dst <;> rfl

theorem encode_ld_reg_atHl (dst : Reg8) : encode (Instr.ld (.reg dst) .atHl) = opcodeByte (0x46 + 8 * regCode dst) := by
  cases dst <;> rfl

theorem cls_ld_reg_atHl (dst : Reg8) : (Instr.ld (.reg dst) .atHl).opcode.cls = .named := by
  cases dst <;> rfl

@[simp] theorem shapeOf_ld_atHl_reg (r : Reg8) : shapeOf (Instr.ld .atHl (.reg r)) = .ldAtHlR r := by
  cases r <;> rfl

theorem encode_ld_atHl_reg (r : Reg8) : encode (Instr.ld .atHl (.reg r)) = opcodeByte (0x70 + regCode r) := by
  cases r <;> rfl

theorem cls_ld_atHl_reg (r : Reg8) : (Instr.ld .atHl (.reg r)).opcode.cls = .named := by
  cases r <;> rfl

@[simp] theorem shapeOf_ldImm_reg (dst : Reg8) (n : Byte) : shapeOf (Instr.ldImm (.reg dst) n) = .ldRImm dst n := by
  cases dst <;> rfl

theorem encode_ldImm_reg (dst : Reg8) (n : Byte) : encode (Instr.ldImm (.reg dst) n) = [BitVec.ofNat 8 (8 * regCode dst + 6), n] := by
  cases dst <;> rfl

theorem cls_ldImm_reg (dst : Reg8) (n : Byte) : (Instr.ldImm (.reg dst) n).opcode.cls = .named := by
  cases dst <;> rfl

@[simp] theorem shapeOf_inc (o : Operand8) : shapeOf (Instr.inc o) = .inc o := by
  rcases o with r | _ <;> first | rfl | (cases r <;> rfl)

theorem encode_inc (o : Operand8) : encode (Instr.inc o) = opcodeByte (0x04 + 8 * operandCode o) := by
  rcases o with r | _ <;> first | rfl | (cases r <;> rfl)

theorem cls_inc (o : Operand8) : (Instr.inc o).opcode.cls = .named := by
  rcases o with r | _ <;> first | rfl | (cases r <;> rfl)

@[simp] theorem shapeOf_dec (o : Operand8) : shapeOf (Instr.dec o) = .dec o := by
  rcases o with r | _ <;> first | rfl | (cases r <;> rfl)

theorem encode_dec (o : Operand8) : encode (Instr.dec o) = opcodeByte (0x05 + 8 * operandCode o) := by
  rcases o with r | _ <;> first | rfl | (cases r <;> rfl)

theorem cls_dec (o : Operand8) : (Instr.dec o).opcode.cls = .named := by
  rcases o with r | _ <;> first | rfl | (cases r <;> rfl)

@[simp] theorem shapeOf_alu (op : AluOp) (o : Operand8) : shapeOf (Instr.alu op o) = .alu op (.operand o) := by
  cases op <;> rcases o with r | _ <;> first | rfl | (cases r <;> rfl)

theorem encode_alu (op : AluOp) (o : Operand8) : encode (Instr.alu op o) = [BitVec.ofNat 8 (0x80 + 8 * aluCode op + operandCode o)] := by
  cases op <;> rcases o with r | _ <;> first | rfl | (cases r <;> rfl)

theorem cls_alu (op : AluOp) (o : Operand8) : (Instr.alu op o).opcode.cls = .named := by
  cases op <;> rcases o with r | _ <;> first | rfl | (cases r <;> rfl)

@[simp] theorem shapeOf_aluImm (op : AluOp) (n : Byte) : shapeOf (Instr.aluImm op n) = .alu op (.imm n) := by
  cases op <;> rfl

theorem encode_aluImm (op : AluOp) (n : Byte) : encode (Instr.aluImm op n) = [BitVec.ofNat 8 (0xC6 + 8 * aluCode op), n] := by
  cases op <;> rfl

theorem cls_aluImm (op : AluOp) (n : Byte) : (Instr.aluImm op n).opcode.cls = .named := by
  cases op <;> rfl

@[simp] theorem shapeOf_ldPair (p : Pair) (n : Word) : shapeOf (Instr.ldPair p n) = .ldPair p n := by
  cases p <;> rfl

theorem cls_ldPair (p : Pair) (n : Word) : (Instr.ldPair p n).opcode.cls = .named := by
  cases p <;> rfl

@[simp] theorem shapeOf_addHl (p : Pair) : shapeOf (Instr.addHl p) = .addHl p := by
  cases p <;> rfl

theorem encode_addHl (p : Pair) : encode (Instr.addHl p) = opcodeByte (0x09 + 16 * pairCode p) := by
  cases p <;> rfl

theorem cls_addHl (p : Pair) : (Instr.addHl p).opcode.cls = .named := by
  cases p <;> rfl

@[simp] theorem shapeOf_incPair (p : Pair) : shapeOf (Instr.incPair p) = .incPair p := by
  cases p <;> rfl

theorem encode_incPair (p : Pair) : encode (Instr.incPair p) = opcodeByte (0x03 + 16 * pairCode p) := by
  cases p <;> rfl

theorem cls_incPair (p : Pair) : (Instr.incPair p).opcode.cls = .named := by
  cases p <;> rfl

@[simp] theorem shapeOf_decPair (p : Pair) : shapeOf (Instr.decPair p) = .decPair p := by
  cases p <;> rfl

theorem encode_decPair (p : Pair) : encode (Instr.decPair p) = opcodeByte (0x0B + 16 * pairCode p) := by
  cases p <;> rfl

theorem cls_decPair (p : Pair) : (Instr.decPair p).opcode.cls = .named := by
  cases p <;> rfl

@[simp] theorem shapeOf_push (p : StackPair) : shapeOf (Instr.push p) = .push p := by
  cases p <;> rfl

theorem encode_push (p : StackPair) : encode (Instr.push p) = opcodeByte (0xC5 + 16 * stackPairCode p) := by
  cases p <;> rfl

theorem cls_push (p : StackPair) : (Instr.push p).opcode.cls = .named := by
  cases p <;> rfl

@[simp] theorem shapeOf_pop (p : StackPair) : shapeOf (Instr.pop p) = .pop p := by
  cases p <;> rfl

theorem encode_pop (p : StackPair) : encode (Instr.pop p) = opcodeByte (0xC1 + 16 * stackPairCode p) := by
  cases p <;> rfl

theorem cls_pop (p : StackPair) : (Instr.pop p).opcode.cls = .named := by
  cases p <;> rfl

@[simp] theorem shapeOf_jrCc (cc : Cond) (n : Byte) : shapeOf (Instr.jrCc cc n) = .jumpIf cc (.rel n) 12 8 := by
  cases cc <;> rfl

theorem encode_jrCc (cc : Cond) (n : Byte) : encode (Instr.jrCc cc n) = [BitVec.ofNat 8 (0x20 + 8 * condCode cc), n] := by
  cases cc <;> rfl

theorem cls_jrCc (cc : Cond) (n : Byte) : (Instr.jrCc cc n).opcode.cls = .named := by
  cases cc <;> rfl

@[simp] theorem shapeOf_jpCc (cc : Cond) (n : Word) : shapeOf (Instr.jpCc cc n) = .jumpIf cc (.abs n) 16 12 := by
  cases cc <;> rfl

theorem cls_jpCc (cc : Cond) (n : Word) : (Instr.jpCc cc n).opcode.cls = .named := by
  cases cc <;> rfl

@[simp] theorem shapeOf_callCc (cc : Cond) (n : Word) : shapeOf (Instr.callCc cc n) = .callIf cc n := by
  cases cc <;> rfl

theorem cls_callCc (cc : Cond) (n : Word) : (Instr.callCc cc n).opcode.cls = .extra := by
  cases cc <;> rfl

@[simp] theorem shapeOf_retCc (cc : Cond) : shapeOf (Instr.retCc cc) = .retIf cc := by
  cases cc <;> rfl

theorem encode_retCc (cc : Cond) : encode (Instr.retCc cc) = opcodeByte (0xC0 + 8 * condCode cc) := by
  cases cc <;> rfl

theorem cls_retCc (cc : Cond) : (Instr.retCc cc).opcode.cls = .extra := by
  cases cc <;> rfl

@[simp] theorem shapeOf_rst (y : Fin 8) : shapeOf (Instr.rst y) = .call (rstTarget y) 16 := by
  fin_cases y <;> rfl

theorem encode_rst (y : Fin 8) : encode (Instr.rst y) = opcodeByte (0xC7 + 8 * y.val) := by
  fin_cases y <;> rfl

theorem cls_rst (y : Fin 8) : (Instr.rst y).opcode.cls = .named := by
  fin_cases y <;> rfl

@[simp] theorem shapeOf_rot (op : RotOp) (o : Operand8) : shapeOf (Instr.rot op o) = .rot op o := by
  cases op <;> rcases o with r | _ <;> first | rfl | (cases r <;> rfl)

theorem encode_rot (op : RotOp) (o : Operand8) : encode (Instr.rot op o) = [0xCB, BitVec.ofNat 8 (8 * rotCode op + operandCode o)] := by
  cases op <;> rcases o with r | _ <;> first | rfl | (cases r <;> rfl)

@[simp] theorem shapeOf_bit (b : Fin 8) (o : Operand8) : shapeOf (Instr.bit b o) = .bit b o := by
  fin_cases b <;> rcases o with r | _ <;> first | rfl | (cases r <;> rfl)

theorem encode_bit (b : Fin 8) (o : Operand8) : encode (Instr.bit b o) = [0xCB, BitVec.ofNat 8 (0x40 + 8 * b.val + operandCode o)] := by
  fin_cases b <;> rcases o with r | _ <;> first | rfl | (cases r <;> rfl)

@[simp] theorem shapeOf_res (b : Fin 8) (o : Operand8) : shapeOf (Instr.res b o) = .res b o := by
  fin_cases b <;> rcases o with r | _ <;> first | rfl | (cases r <;> rfl)

theorem encode_res (b : Fin 8) (o : Operand8) : encode (Instr.res b o) = [0xCB, BitVec.ofNat 8 (0x80 + 8 * b.val + operandCode o)] := by
  fin_cases b <;> rcases o with r | _ <;> first | rfl | (cases r <;> rfl)

@[simp] theorem shapeOf_set (b : Fin 8) (o : Operand8) : shapeOf (Instr.set b o) = .set b o := by
  fin_cases b <;> rcases o with r | _ <;> first | rfl | (cases r <;> rfl)

theorem encode_set (b : Fin 8) (o : Operand8) : encode (Instr.set b o) = [0xCB, BitVec.ofNat 8 (0xC0 + 8 * b.val + operandCode o)] := by
  fin_cases b <;> rcases o with r | _ <;> first | rfl | (cases r <;> rfl)

@[simp] theorem shapeOf_aluInstr (op : AluOp) (src : AluSrc) : shapeOf (aluInstr op src) = .alu op src := by
  cases src <;> simp [aluInstr]

theorem isEncoded_aluInstr (op : AluOp) (src : AluSrc) : isEncoded (aluInstr op src) (aluBytes op src) .named := by
  cases src with
  | operand o => exact ⟨encode_alu op o, cls_alu op o⟩
  | imm n => exact ⟨encode_aluImm op n, cls_aluImm op n⟩

/-- A shape that is not fatal completes. -/
theorem completes_of_post {i : Instr} {s : State} {P : State → Prop} (hf : (shapeOf i).isFatal = false)
    (hp : P ((shapeOf i).post s)) : completes i s P := by
  obtain ⟨n, hn⟩ := (shapeOf i).post_returned s hf
  exact ⟨_, n, exec_eq_post i s, hn, hp⟩

/-! ## Bytes of a word -/

theorem hiByte_eq (v : Word) : hiByte v = BitVec.ofNat 8 (v.toNat / 256) := by
  apply BitVec.eq_of_toNat_eq
  simp [hiByte, Nat.shiftRight_eq_div_pow]

theorem loByte_eq (v : Word) : loByte v = BitVec.ofNat 8 v.toNat := by
  apply BitVec.eq_of_toNat_eq
  simp [loByte]

theorem pushes_eq (s : State) (v : Word) : pushes s v = pushStores s v := by
  simp [pushes, pushStores, hiByte_eq, loByte_eq]

theorem poppedWord_eq (s : State) : poppedWord s = s.popValue := by
  apply BitVec.eq_of_toNat_eq
  rw [poppedWord, State.popValue, toNat_join, BitVec.toNat_ofNat]
  have := (s.read (s.sp + 1)).isLt
  have := (s.read s.sp).isLt
  omega

/-! ## Registers and pairs -/

theorem forall_reg8 {P : Reg8 → Prop} : (∀ r, P r) ↔ P .b ∧ P .c ∧ P .d ∧ P .e ∧ P .h ∧ P .l ∧ P .a := by
  constructor
  · exact fun h => ⟨h _, h _, h _, h _, h _, h _, h _⟩
  · rintro ⟨h1, h2, h3, h4, h5, h6, h7⟩ r
    cases r <;> assumption

@[simp] theorem State.stackPair_setStackPair (s : State) (p : StackPair) (v : Word) (h : p ≠ .af) :
    (s.setStackPair p v).stackPair p = v := by
  cases p <;> simp_all [State.stackPair, State.setStackPair]

theorem State.reg_setPair (s : State) (p : Pair) (v : Word) (r : Reg8) (h : r ∉ pairRegs p) :
    (s.setPair p v).reg r = s.reg r := by
  cases p <;> cases r <;> simp_all [State.setPair, State.reg, pairRegs]

theorem State.join_hlInc (s : State) : join s.hlInc.h s.hlInc.l = s.pair .hl + 1 := s.pair_hlInc

theorem State.join_hlDec (s : State) : join s.hlDec.h s.hlDec.l = s.pair .hl - 1 := s.pair_hlDec

theorem highAddr_eq (n : Byte) : highAddr n = BitVec.ofNat 16 (0xFF00 + n.toNat) := by
  apply BitVec.eq_of_toNat_eq
  have := n.isLt
  rw [highAddr, toNat_join, BitVec.toNat_ofNat]
  simp
  omega

@[simp] theorem State.reg_setFlags (s : State) (z n h c : Bool) (r : Reg8) : (s.setFlags z n h c).reg r = s.reg r := by
  cases r <;> rfl

@[simp] theorem State.pair_setFlags (s : State) (z n h c : Bool) (p : Pair) : (s.setFlags z n h c).pair p = s.pair p := by
  cases p <;> rfl

@[simp] theorem State.reg_write (s : State) (a : Word) (v : Byte) (r : Reg8) : (s.write a v).reg r = s.reg r :=
  State.reg_congr (by simp) (by simp) (by simp) (by simp) (by simp) (by simp) (by simp) r

@[simp] theorem State.pair_write (s : State) (a : Word) (v : Byte) (p : Pair) : (s.write a v).pair p = s.pair p := by
  cases p <;> simp [State.pair]

@[simp] theorem State.reg_push16 (s : State) (v : Word) (r : Reg8) : (s.push16 v).reg r = s.reg r :=
  State.reg_congr (by simp) (by simp) (by simp) (by simp) (by simp) (by simp) (by simp) r

@[simp] theorem State.reg_popSp (s : State) (r : Reg8) : s.popSp.reg r = s.reg r := by cases r <;> rfl

/-- The result of `WriteR` (30_encoding.md R120): the operand holds the value. -/
theorem State.reg_writeR (s : State) (r : Reg8) (v : Byte) (r' : Reg8) :
    (s.writeR (.reg r) v).reg r' = if r' = r then v else s.reg r' := s.reg_setReg r r' v

/-! ## Flags -/

theorem flagsAre_count {t : State} {z n h c : Bool} (k : Nat) (hf : flagsAre t z n h c) : flagsAre (t.count k) z n h c := hf

theorem flagsAre_setFlags (s : State) (z n h c : Bool) : flagsAre (s.setFlags z n h c) z n h c :=
  ⟨by simp, by simp, by simp, by simp, packF_clean z n h c⟩

theorem packF_flags (z n h c : Bool) : (packF z n h c).getLsbD 7 = z ∧ (packF z n h c).getLsbD 6 = n ∧
    (packF z n h c).getLsbD 5 = h ∧ (packF z n h c).getLsbD 4 = c := by
  cases z <;> cases n <;> cases h <;> cases c <;> decide

theorem flagsAre_writeOut (s : State) (o : Operand8) (r : Out8) : flagsAre (s.writeOut o r) r.z r.n r.h r.c :=
  flagsAre_setFlags _ _ _ _ _

/-! ## Frames of the shared operations -/

theorem changesOnly.count {s t : State} {ds : List Reg8} {ws : List (Word × Byte)} (h : changesOnly s t ds ws) (n : Nat) :
    changesOnly s (t.count n) ds ws := ⟨by simpa using h.1, h.2⟩

theorem changesOnly.setFlags {s t : State} {ds : List Reg8} {ws : List (Word × Byte)} (h : changesOnly s t ds ws)
    (z n f c : Bool) : changesOnly s (t.setFlags z n f c) ds ws := ⟨by simpa using h.1, h.2⟩

theorem changesOnly.pc {s t : State} {ds : List Reg8} {ws : List (Word × Byte)} (h : changesOnly s t ds ws) (a : Word) :
    changesOnly s { t with pc := a } ds ws := ⟨fun r hr => by cases r <;> exact h.1 _ hr, h.2⟩

theorem changesOnly_refl (s : State) : changesOnly s s [] [] :=
  ⟨fun _ _ => rfl, ⟨rfl, rfl, rfl, rfl, rfl⟩, ⟨rfl, rfl, rfl, rfl⟩, ⟨rfl, rfl, rfl, rfl, rfl⟩⟩

theorem changesOnly_setReg (s : State) (r : Reg8) (v : Byte) : changesOnly s (s.setReg r v) [r] [] := by
  refine ⟨fun r' hr => ?_, by simp [sameMemory, State.writes], by simp [sameControl], by simp [sameOthers]⟩
  simp only [List.mem_singleton] at hr
  simp [hr]

theorem changesOnly_setPair (s : State) (p : Pair) (v : Word) : changesOnly s (s.setPair p v) (pairRegs p) [] :=
  ⟨fun r hr => s.reg_setPair p v r hr, by simp [sameMemory, State.writes], by simp [sameControl], by simp [sameOthers]⟩

theorem changesOnly_write (s : State) (a : Word) (v : Byte) : changesOnly s (s.write a v) [] [(a, v)] :=
  ⟨by simp, by simp [sameMemory, State.writes], by simp [sameControl], by simp [sameOthers]⟩

theorem changesOnly_push16 (s : State) (v : Word) : changesOnly s (s.push16 v) [] (pushes s v) :=
  ⟨by simp, by rw [pushes_eq]; exact s.push16_sameMemory v, by simp [sameControl], by simp [sameOthers]⟩

theorem changesOnly_popPc (s : State) : changesOnly s s.popPc [] [] :=
  ⟨fun r _ => by cases r <;> rfl, ⟨rfl, rfl, rfl, rfl, rfl⟩, ⟨rfl, rfl, rfl, rfl⟩, ⟨rfl, rfl, rfl, rfl, rfl⟩⟩

theorem leaves_writeR (s : State) (o : Operand8) (v : Byte) : leaves s (s.writeR o v) o v := by
  cases o with
  | reg r =>
    refine ⟨?_, changesOnly_setReg s r v⟩
    rintro r' h
    cases h
    simp [State.reg_writeR]
  | atHl => exact ⟨by simp, changesOnly_write s _ v⟩

theorem leaves_writeOut (s : State) (o : Operand8) (r : Out8) : leaves s (s.writeOut o r) o r.res := by
  have h := leaves_writeR s o r.res
  exact ⟨fun r' hr => by simpa [State.writeOut] using h.1 r' hr, h.2.setFlags _ _ _ _⟩

theorem leaves.count {s t : State} {o : Operand8} {v : Byte} (h : leaves s t o v) (n : Nat) : leaves s (t.count n) o v :=
  ⟨by simpa using h.1, h.2.count n⟩

@[simp] theorem State.writeOut_a (s : State) (r : Out8) : (s.writeOut (.reg .a) r).a = r.res := rfl

@[simp] theorem State.writeOut_sp (s : State) (o : Operand8) (r : Out8) : (s.writeOut o r).sp = s.sp := by
  simp [State.writeOut]

@[simp] theorem State.writeOut_pc (s : State) (o : Operand8) (r : Out8) : (s.writeOut o r).pc = s.pc := by
  simp [State.writeOut]

end Sys2Proof.Machine
end

