-- ==== Sys2Proof/Laws/Frames.lean ====
section
/-! SUPPORT. The frames, shape by shape: the registers, the bits of F, SP, PC and the bytes an instruction leaves alone,
and that the sets of Safety.lean are those of the shapes. -/

namespace Sys2Proof.Machine

/-! ## What a shape writes -/

/-- The registers a shape writes. -/
def Shape.dests : Shape → List Reg8
  | .ldRR dst _ => [dst]
  | .ldRImm dst _ => [dst]
  | .ldRAtHl dst => [dst]
  | .ldA _ _ => [.a]
  | .stHlInc => [.h, .l]
  | .stHlDec => [.h, .l]
  | .ldHlInc => [.a, .h, .l]
  | .ldHlDec => [.a, .h, .l]
  | .ldPair p _ => pairRegs p
  | .pop p => stackPairRegs p
  | .spPlus p _ _ => pairRegs p
  | .alu op _ => if op = .cp then [] else [.a]
  | .inc o => operandRegs o
  | .dec o => operandRegs o
  | .daa => [.a]
  | .cpl => [.a]
  | .addHl _ => [.h, .l]
  | .incPair p => pairRegs p
  | .decPair p => pairRegs p
  | .rlca => [.a]
  | .rrca => [.a]
  | .rla => [.a]
  | .rra => [.a]
  | .rot _ o => operandRegs o
  | .res _ o => operandRegs o
  | .set _ o => operandRegs o
  | _ => []

/-- The bits of F a shape writes. -/
def Shape.flagBits : Shape → Byte
  | .pop p => if p = .af then 0xF0 else 0x00
  | .spPlus _ _ _ => 0xF0
  | .alu _ _ => 0xF0
  | .inc _ => 0xE0
  | .dec _ => 0xE0
  | .daa => 0xB0
  | .cpl => 0x60
  | .scf => 0x70
  | .ccf => 0x70
  | .addHl _ => 0x70
  | .rlca => 0xF0
  | .rrca => 0xF0
  | .rla => 0xF0
  | .rra => 0xF0
  | .rot _ _ => 0xF0
  | .bit _ _ => 0xE0
  | _ => 0x00

/-- Does a shape write SP? -/
def Shape.writesSp : Shape → Bool
  | .ldPair p _ => decide (p = .sp)
  | .ldSpHl => true
  | .push _ => true
  | .pop _ => true
  | .spPlus p _ _ => decide (p = .sp)
  | .incPair p => decide (p = .sp)
  | .decPair p => decide (p = .sp)
  | .call _ _ => true
  | .callIf _ _ => true
  | .ret => true
  | .retIf _ => true
  | .reti => true
  | _ => false

/-- Does a shape write PC? -/
def Shape.writesPc : Shape → Bool
  | .jump _ _ => true
  | .jumpIf _ _ _ _ => true
  | .call _ _ => true
  | .callIf _ _ => true
  | .ret => true
  | .retIf _ => true
  | .reti => true
  | _ => false

/-! ## The sets of Safety.lean are those of the shapes -/

theorem cbShape_frame (cb : Byte) :
    (cbShape cb).dests = destRegs (.prefix_cb cb) ∧ (cbShape cb).flagBits = flagMask (.prefix_cb cb) ∧
    (cbShape cb).writesSp = false ∧ (cbShape cb).writesPc = false := by
  show (cbShape cb).dests = (if fieldX cb = 1 then [] else operandRegs (rOf (fieldZ cb))) ∧
    (cbShape cb).flagBits = (match fieldX cb with
      | 0 => 0xF0
      | 1 => 0xE0
      | _ => 0x00) ∧ (cbShape cb).writesSp = false ∧ (cbShape cb).writesPc = false
  revert cb
  decide

theorem shapeOf_frame_0 (i : Instr) (h : 0 ≤ i.ctorIdx ∧ i.ctorIdx < 130) :
    (shapeOf i).dests = destRegs i ∧ (shapeOf i).flagBits = flagMask i ∧ (shapeOf i).writesSp = writesSp i ∧
    (shapeOf i).writesPc = writesPc i := by
  cases i with
  | prefix_cb cb => exact cbShape_frame cb
  | _ => first | exact absurd h (of_decide_eq_false rfl) | exact ⟨rfl, rfl, rfl, rfl⟩

theorem shapeOf_frame_1 (i : Instr) (h : 130 ≤ i.ctorIdx ∧ i.ctorIdx < 260) :
    (shapeOf i).dests = destRegs i ∧ (shapeOf i).flagBits = flagMask i ∧ (shapeOf i).writesSp = writesSp i ∧
    (shapeOf i).writesPc = writesPc i := by
  cases i with
  | _ => first | exact absurd h (of_decide_eq_false rfl) | exact ⟨rfl, rfl, rfl, rfl⟩

theorem shapeOf_frame_2 (i : Instr) (h : 260 ≤ i.ctorIdx ∧ i.ctorIdx < 390) :
    (shapeOf i).dests = destRegs i ∧ (shapeOf i).flagBits = flagMask i ∧ (shapeOf i).writesSp = writesSp i ∧
    (shapeOf i).writesPc = writesPc i := by
  cases i with
  | _ => first | exact absurd h (of_decide_eq_false rfl) | exact ⟨rfl, rfl, rfl, rfl⟩

theorem shapeOf_frame_3 (i : Instr) (h : 390 ≤ i.ctorIdx ∧ i.ctorIdx < 512) :
    (shapeOf i).dests = destRegs i ∧ (shapeOf i).flagBits = flagMask i ∧ (shapeOf i).writesSp = writesSp i ∧
    (shapeOf i).writesPc = writesPc i := by
  cases i with
  | _ => first | exact absurd h (of_decide_eq_false rfl) | exact ⟨rfl, rfl, rfl, rfl⟩

theorem shapeOf_frame (i : Instr) :
    (shapeOf i).dests = destRegs i ∧ (shapeOf i).flagBits = flagMask i ∧ (shapeOf i).writesSp = writesSp i ∧
    (shapeOf i).writesPc = writesPc i := by
  have := ctorIdx_lt i
  rcases Nat.lt_or_ge i.ctorIdx 260 with h | h
  · rcases Nat.lt_or_ge i.ctorIdx 130 with h' | h'
    · exact shapeOf_frame_0 i ⟨Nat.zero_le _, h'⟩
    · exact shapeOf_frame_1 i ⟨h', h⟩
  · rcases Nat.lt_or_ge i.ctorIdx 390 with h' | h'
    · exact shapeOf_frame_2 i ⟨h, h'⟩
    · exact shapeOf_frame_3 i ⟨h', this⟩

/-! ## Registers, flags, SP, PC -/

/-- A shape leaves every register it does not write. -/
theorem Shape.post_reg (sh : Shape) (s : State) (r : Reg8) (h : r ∉ sh.dests) : (sh.post s).reg r = s.reg r := by
  have keyp : ∀ p v, r ∉ pairRegs p → (s.setPair p v).reg r = s.reg r := fun p v h => s.reg_setPair p v r h
  have key : ∀ o v, r ∉ operandRegs o → (s.writeR o v).reg r = s.reg r := fun o v h => (leaves_writeR s o v).2.1 r h
  cases sh
  case alu op src =>
    by_cases ho : op = .cp
    · subst ho
      cases r <;> rfl
    · simp [Shape.dests, ho] at h
      simp [Shape.post, State.writeOut, State.reg_writeR, h]
  case pop p =>
    cases p <;> cases r <;>
      simp_all [Shape.dests, stackPairRegs, Shape.post, State.setStackPair, State.reg, State.count]
  case reti => cases r <;> simp [Shape.post, State.reg]
  case call => cases r <;> simp [Shape.post, State.reg, State.called]
  case callIf =>
    simp only [Shape.post]
    split_ifs <;> cases r <;> simp [State.reg, State.called]
  case retIf =>
    simp only [Shape.post]
    split_ifs <;> cases r <;> simp [State.reg, State.popPc]
  case jumpIf =>
    simp only [Shape.post]
    split_ifs <;> cases r <;> simp [State.reg]
  case stHlInc => cases r <;> simp_all [Shape.dests, Shape.post, State.reg]
  case stHlDec => cases r <;> simp_all [Shape.dests, Shape.post, State.reg]
  case ldHlInc => cases r <;> simp_all [Shape.dests, Shape.post, State.reg, State.setReg]
  case ldHlDec => cases r <;> simp_all [Shape.dests, Shape.post, State.reg, State.setReg]
  case addHl p =>
    simp only [Shape.post, State.reg_count, State.reg_setFlags]
    exact keyp _ _ h
  case ldSpHl => cases r <;> rfl
  case daa =>
    simp [Shape.dests] at h
    simp [Shape.post, State.writeOut, State.reg_writeR, h]
  all_goals simp only [Shape.dests] at h
  all_goals
    first
    | (simp_all [Shape.post, State.writeOut]; done)
    | (cases r <;> simp_all [Shape.post, State.reg, State.popPc, State.rotatedA, State.setReg])

/-- New flags that agree with `f` outside a mask. -/
theorem packF_and_not (f : Byte) (hf : f &&& 0x0F = 0) (z n h c : Bool) (m : Byte)
    (e7 : m.getLsbD 7 = true ∨ z = f.getLsbD 7) (e6 : m.getLsbD 6 = true ∨ n = f.getLsbD 6)
    (e5 : m.getLsbD 5 = true ∨ h = f.getLsbD 5) (e4 : m.getLsbD 4 = true ∨ c = f.getLsbD 4) :
    packF z n h c &&& ~~~m = f &&& ~~~m := by
  have hp := packF_flags z n h c
  have hb : ∀ i, i < 4 → (packF z n h c).getLsbD i = f.getLsbD i := by
    intro i h4
    have := congrArg (·.getLsbD i) (((packF_clean z n h c).trans hf.symm : packF z n h c &&& 0x0F = f &&& 0x0F))
    simp at this
    interval_cases i <;> simp_all
  ext i hi
  rcases i with _ | _ | _ | _ | _ | _ | _ | _ | i
  · simp [← BitVec.getLsbD_eq_getElem, hb 0 (by decide)]
  · simp [← BitVec.getLsbD_eq_getElem, hb 1 (by decide)]
  · simp [← BitVec.getLsbD_eq_getElem, hb 2 (by decide)]
  · simp [← BitVec.getLsbD_eq_getElem, hb 3 (by decide)]
  · rcases e4 with e | e <;> simp_all
  · rcases e5 with e | e <;> simp_all
  · rcases e6 with e | e <;> simp_all
  · rcases e7 with e | e <;> simp_all
  · omega

/-- A shape leaves the bits of F it does not write. -/
theorem Shape.post_f (sh : Shape) (s : State) (h : s.flagsClean) :
    (sh.post s).f &&& ~~~sh.flagBits = s.f &&& ~~~sh.flagBits := by
  have hk := packF_and_not s.f h
  cases sh
  case pop p =>
    have h' : s.f &&& 15#8 = 0#8 := h
    cases p <;> simp [Shape.post, Shape.flagBits, State.setStackPair, State.writeF]
    rw [BitVec.and_assoc, h']
    simp
  case jumpIf =>
    simp only [Shape.post]
    split_ifs <;> simp
  case callIf =>
    simp only [Shape.post]
    split_ifs <;> simp [State.called]
  case retIf =>
    simp only [Shape.post]
    split_ifs <;> simp [State.popPc]
  case spPlus => exact hk _ _ _ _ 0xF0 (.inl rfl) (.inl rfl) (.inl rfl) (.inl rfl)
  case alu => exact hk _ _ _ _ 0xF0 (.inl rfl) (.inl rfl) (.inl rfl) (.inl rfl)
  case inc => exact hk _ _ _ _ 0xE0 (.inl rfl) (.inl rfl) (.inl rfl) (.inr rfl)
  case dec => exact hk _ _ _ _ 0xE0 (.inl rfl) (.inl rfl) (.inl rfl) (.inr rfl)
  case addHl => exact hk _ _ _ _ 0x70 (.inr rfl) (.inl rfl) (.inl rfl) (.inl rfl)
  case rot => exact hk _ _ _ _ 0xF0 (.inl rfl) (.inl rfl) (.inl rfl) (.inl rfl)
  case bit => exact hk _ _ _ _ 0xE0 (.inl rfl) (.inl rfl) (.inl rfl) (.inr rfl)
  all_goals simp [Shape.post, State.writeOut, State.rotatedA, State.called, State.popPc]
  all_goals
    refine hk _ _ _ _ _ ?_ ?_ ?_ ?_ <;> first | exact .inl rfl | exact .inr rfl

theorem Shape.post_sp (sh : Shape) (s : State) (h : sh.writesSp = false) : (sh.post s).sp = s.sp := by
  cases sh
  case ldPair p n => cases p <;> first | rfl | exact Bool.noConfusion h
  case incPair p => cases p <;> first | rfl | exact Bool.noConfusion h
  case decPair p => cases p <;> first | rfl | exact Bool.noConfusion h
  case spPlus p n k => cases p <;> first | rfl | exact Bool.noConfusion h
  case addHl p => rfl
  case jumpIf =>
    simp only [Shape.post]
    split_ifs <;> rfl
  all_goals first | exact Bool.noConfusion h | simp [Shape.post, State.writeOut, State.rotatedA]

theorem Shape.post_pc (sh : Shape) (s : State) (h : sh.writesPc = false) : (sh.post s).pc = s.pc := by
  cases sh
  all_goals first | exact Bool.noConfusion h | simp [Shape.post, State.writeOut, State.rotatedA]

/-! ## Bytes -/

theorem State.writes_direct (ws : List (Word × Byte)) (s : State) (k : Word)
    (h : ∀ a ∈ ws.map Prod.fst, k ≠ canonical a) : (s.writes ws).direct k = s.direct k := by
  unfold State.writes
  induction ws generalizing s with
  | nil => rfl
  | cons w ws ih =>
    simp only [List.map_cons, List.forall_mem_cons, List.foldl] at h ih ⊢
    rw [ih _ h.2, State.direct_write_other _ _ _ _ h.1]

theorem State.writes_low (ws : List (Word × Byte)) (s : State) (h : ∀ a ∈ ws.map Prod.fst, a.toNat ≤ 0x7FFF) :
    (s.writes ws).backing = s.backing ∧ (s.writes ws).cartRam = s.cartRam := by
  unfold State.writes
  induction ws generalizing s with
  | nil => exact ⟨rfl, rfl⟩
  | cons w ws ih =>
    simp only [List.map_cons, List.forall_mem_cons, List.foldl] at h ih ⊢
    rw [(ih _ h.2).1, (ih _ h.2).2, State.backing_write_low _ _ _ h.1, State.cartRam_write_low _ _ _ h.1]
    exact ⟨rfl, rfl⟩

theorem State.writes_outside (ws : List (Word × Byte)) (s : State)
    (h : ∀ a ∈ ws.map Prod.fst, ¬(0xA000 ≤ a.toNat ∧ a.toNat ≤ 0xBFFF)) : (s.writes ws).cartRam = s.cartRam := by
  unfold State.writes
  induction ws generalizing s with
  | nil => rfl
  | cons w ws ih =>
    simp only [List.map_cons, List.forall_mem_cons, List.foldl] at h ih ⊢
    rw [ih _ h.2, State.cartRam_write_outside _ _ _ h.1]

theorem State.writes_mapper (ws : List (Word × Byte)) (s : State) (h : ∀ a ∈ ws.map Prod.fst, 0x8000 ≤ a.toNat) :
    (s.writes ws).mapper = s.mapper := by
  unfold State.writes
  induction ws generalizing s with
  | nil => rfl
  | cons w ws ih =>
    simp only [List.map_cons, List.forall_mem_cons, List.foldl] at h ih ⊢
    rw [ih _ h.2, State.mapper_write_high _ _ _ h.1]

theorem canonical_window (a : Word) (h : 0xA000 ≤ a.toNat ∧ a.toNat ≤ 0xBFFF) : canonical a = a :=
  canonical_of_not_echo a (by
    by_contra hne
    simp [isEcho] at hne
    omega)

/-- Two addresses of the window with one offset in RAM_IMAGE are one address. -/
theorem State.cartRamOffset_inj (s : State) (m : Mbc1) (a b : Word) (o : Nat) (h1 : 0xA000 ≤ a.toNat)
    (h2 : 0xA000 ≤ b.toNat) (ha : s.cartRamOffset m a = some o) (hb : s.cartRamOffset m b = some o) : a = b := by
  apply BitVec.eq_of_toNat_eq
  simp only [State.cartRamOffset] at ha hb
  split_ifs at ha hb
  simp only [Option.some.injEq] at ha hb
  omega

/-- A store at 0x8000 or above shows only at addresses with its storage. -/
theorem State.read_write_other (s : State) (a b : Word) (v : Byte) (ha : 0x8000 ≤ a.toNat)
    (h : canonical b ≠ canonical a) : (s.write a v).read b = s.read b := by
  have hd : (s.write a v).direct (canonical b) = s.direct (canonical b) := State.direct_write_other _ _ _ _ h
  have hm := State.mapper_write_high s a v ha
  unfold State.read
  split_ifs with h1 h2 h3 h4 h5
  · simp [State.mapperRead, State.romOffset, hm]
  · rw [canonical_window b h2] at hd h
    unfold State.cartRamRead
    rw [hm]
    cases hmm : s.mapper with
    | romOnly => exact hd
    | mbc1 m =>
      have ho : (s.write a v).cartRamOffset m b = s.cartRamOffset m b := by simp [State.cartRamOffset]
      simp only [ho]
      cases hob : s.cartRamOffset m b with
      | none => rfl
      | some o =>
        by_cases h2' : 0xA000 ≤ a.toNat ∧ a.toNat ≤ 0xBFFF
        · rw [canonical_window a h2'] at h
          rcases s.write_cases a v with ⟨h1, -⟩ | ⟨-, -, hw⟩ | ⟨-, hn, -, hw⟩ | ⟨he, hw⟩
          · omega
          · rw [hw]
            rcases s.cartRamWrite_cases a v with ⟨-, hw⟩ | ⟨_, -, -, hw⟩ | ⟨m', o', hm', ho', hw⟩
            · simp [hw]
            · rw [hw]
            · obtain rfl : m' = m := by
                rw [hmm] at hm'
                exact (Mapper.mbc1.inj hm').symm
              rw [hw]
              refine Memory.get_set_other _ _ _ _ _ fun hoo => h ?_
              subst hoo
              exact s.cartRamOffset_inj m' b a o h2.1 h2'.1 hob ho'
          · exact absurd h2' hn
          · subst he
            simp at h2'
        · rw [State.cartRam_write_outside _ _ _ h2']
  · rwa [canonical_of_echo b h3] at hd
  · rfl
  · have : canonical b = b := canonical_of_not_echo b (by simpa using h3)
    rw [this, h5] at hd
    rw [hd]
  · have : canonical b = b := canonical_of_not_echo b (by simpa using h3)
    rwa [this] at hd

theorem State.writes_read (ws : List (Word × Byte)) (s : State) (b : Word)
    (h : ∀ a ∈ ws.map Prod.fst, 0x8000 ≤ a.toNat) (h' : ∀ a ∈ ws.map Prod.fst, canonical b ≠ canonical a) :
    (s.writes ws).read b = s.read b := by
  unfold State.writes
  induction ws generalizing s with
  | nil => rfl
  | cons w ws ih =>
    simp only [List.map_cons, List.forall_mem_cons, List.foldl] at h h' ih ⊢
    rw [ih _ h.2 h'.2, State.read_write_other _ _ _ _ h.1 h'.1]

end Sys2Proof.Machine
end

