-- ==== Sys2Proof/Laws/Launch.lean ====
section
/-! SUPPORT. What the stores hold right after a launch, byte by byte: the last cell given for an address counts. -/

namespace Sys2Proof.Machine

/-- Reading a store made from cells. -/
theorem Memory.get_ofCells (st : Store) (cells : List Host.Cell) (k : Nat) (hk : k < st.size) :
    Memory.get st (Memory.ofCells st cells) k = givenByte st cells k := by
  induction cells using List.reverseRecOn with
  | nil => rfl
  | append_singleton cells c ih =>
    have hs : Memory.ofCells st (cells ++ [c]) =
        if c.1 < st.size then Memory.set st (Memory.ofCells st cells) c.1 c.2 else Memory.ofCells st cells := by
      simp [Memory.ofCells]
    rw [hs]
    by_cases hc : c.1 = k
    · subst hc
      simp [givenByte, hk]
    · have hg : givenByte st (cells ++ [c]) k = givenByte st cells k := by simp [givenByte, hc]
      rw [hg]
      split
      · rw [Memory.get_set_other st _ _ _ _ (Ne.symm hc), ih]
      · exact ih

/-- Cells past an image's end do not show inside it. -/
theorem givenByte_filter (st : Store) (cells : List Host.Cell) (n k : Nat) (hk : k < n) :
    givenByte st (cells.filter fun c => c.1 < n) k = givenByte st cells k := by
  induction cells using List.reverseRecOn with
  | nil => rfl
  | append_singleton cells c ih =>
    by_cases hc : c.1 = k
    · subst hc
      simp [givenByte, hk]
    · have hg : ∀ l : List Host.Cell, givenByte st (l ++ [c]) k = givenByte st l k := by simp [givenByte, hc]
      rw [hg, List.filter_append, ← ih]
      by_cases hn : c.1 < n
      · simp [hn, hg]
      · simp [hn]

/-- The backing array right after a launch (10_state.md R43): INIT_MEM but for STAT[2:0] and LY. -/
theorem initialBacking_get (cells : List Host.Cell) (k : Nat) (hk : k < 0x10000) :
    Memory.get .backing (initialBacking cells) k =
      if k = 0xFF44 then 0x00
      else if k = 0xFF41 then (givenByte .backing cells 0xFF41 &&& 0xF8) ||| 0x02
      else givenByte .backing cells k := by
  have h41 := Memory.get_ofCells .backing cells 0xFF41 (by decide)
  have h := Memory.get_ofCells .backing cells k hk
  simp only [initialBacking, Memory.get_set, h41, h]

end Sys2Proof.Machine
end

