-- ==== Sys2Proof/Laws/PerInstr.lean ====
section
/-! SUPPORT. The statements made per instruction: the length of each row (30_encoding.md R110, R119). -/

/-- An instruction has the length its first byte tells, one to three bytes. -/
def Sys2Proof.Laws.Length.Statement (i : Sys2Proof.Instr) : Prop :=
  Sys2Proof.Instr.length i = Sys2Proof.lengthByFirst ((Sys2Proof.encode i).headD 0) ∧
    1 ≤ Sys2Proof.Instr.length i ∧ Sys2Proof.Instr.length i ≤ 3

namespace Sys2Proof.Laws

theorem Length.ld_bc_d16 (d16 : Word) : Length.Statement (.ld_bc_d16 d16) :=
  ⟨@id (3 = lengthByFirst 0x01) rfl, Nat.le_of_ble_eq_true rfl, Nat.le_of_ble_eq_true rfl⟩
theorem Length.ld_b_d8 (d8 : Byte) : Length.Statement (.ld_b_d8 d8) :=
  ⟨@id (2 = lengthByFirst 0x06) rfl, Nat.le_of_ble_eq_true rfl, Nat.le_of_ble_eq_true rfl⟩
theorem Length.ld_at_a16_sp (a16 : Word) : Length.Statement (.ld_at_a16_sp a16) :=
  ⟨@id (3 = lengthByFirst 0x08) rfl, Nat.le_of_ble_eq_true rfl, Nat.le_of_ble_eq_true rfl⟩
theorem Length.ld_c_d8 (d8 : Byte) : Length.Statement (.ld_c_d8 d8) :=
  ⟨@id (2 = lengthByFirst 0x0E) rfl, Nat.le_of_ble_eq_true rfl, Nat.le_of_ble_eq_true rfl⟩
theorem Length.stop (d8 : Byte) : Length.Statement (.stop d8) :=
  ⟨@id (2 = lengthByFirst 0x10) rfl, Nat.le_of_ble_eq_true rfl, Nat.le_of_ble_eq_true rfl⟩
theorem Length.ld_de_d16 (d16 : Word) : Length.Statement (.ld_de_d16 d16) :=
  ⟨@id (3 = lengthByFirst 0x11) rfl, Nat.le_of_ble_eq_true rfl, Nat.le_of_ble_eq_true rfl⟩
theorem Length.ld_d_d8 (d8 : Byte) : Length.Statement (.ld_d_d8 d8) :=
  ⟨@id (2 = lengthByFirst 0x16) rfl, Nat.le_of_ble_eq_true rfl, Nat.le_of_ble_eq_true rfl⟩
theorem Length.jr_r8 (r8 : Byte) : Length.Statement (.jr_r8 r8) :=
  ⟨@id (2 = lengthByFirst 0x18) rfl, Nat.le_of_ble_eq_true rfl, Nat.le_of_ble_eq_true rfl⟩
theorem Length.ld_e_d8 (d8 : Byte) : Length.Statement (.ld_e_d8 d8) :=
  ⟨@id (2 = lengthByFirst 0x1E) rfl, Nat.le_of_ble_eq_true rfl, Nat.le_of_ble_eq_true rfl⟩
theorem Length.jr_nz_r8 (r8 : Byte) : Length.Statement (.jr_nz_r8 r8) :=
  ⟨@id (2 = lengthByFirst 0x20) rfl, Nat.le_of_ble_eq_true rfl, Nat.le_of_ble_eq_true rfl⟩
theorem Length.ld_hl_d16 (d16 : Word) : Length.Statement (.ld_hl_d16 d16) :=
  ⟨@id (3 = lengthByFirst 0x21) rfl, Nat.le_of_ble_eq_true rfl, Nat.le_of_ble_eq_true rfl⟩
theorem Length.ld_h_d8 (d8 : Byte) : Length.Statement (.ld_h_d8 d8) :=
  ⟨@id (2 = lengthByFirst 0x26) rfl, Nat.le_of_ble_eq_true rfl, Nat.le_of_ble_eq_true rfl⟩
theorem Length.jr_z_r8 (r8 : Byte) : Length.Statement (.jr_z_r8 r8) :=
  ⟨@id (2 = lengthByFirst 0x28) rfl, Nat.le_of_ble_eq_true rfl, Nat.le_of_ble_eq_true rfl⟩
theorem Length.ld_l_d8 (d8 : Byte) : Length.Statement (.ld_l_d8 d8) :=
  ⟨@id (2 = lengthByFirst 0x2E) rfl, Nat.le_of_ble_eq_true rfl, Nat.le_of_ble_eq_true rfl⟩
theorem Length.jr_nc_r8 (r8 : Byte) : Length.Statement (.jr_nc_r8 r8) :=
  ⟨@id (2 = lengthByFirst 0x30) rfl, Nat.le_of_ble_eq_true rfl, Nat.le_of_ble_eq_true rfl⟩
theorem Length.ld_sp_d16 (d16 : Word) : Length.Statement (.ld_sp_d16 d16) :=
  ⟨@id (3 = lengthByFirst 0x31) rfl, Nat.le_of_ble_eq_true rfl, Nat.le_of_ble_eq_true rfl⟩
theorem Length.ld_at_hl_d8 (d8 : Byte) : Length.Statement (.ld_at_hl_d8 d8) :=
  ⟨@id (2 = lengthByFirst 0x36) rfl, Nat.le_of_ble_eq_true rfl, Nat.le_of_ble_eq_true rfl⟩
theorem Length.jr_c_r8 (r8 : Byte) : Length.Statement (.jr_c_r8 r8) :=
  ⟨@id (2 = lengthByFirst 0x38) rfl, Nat.le_of_ble_eq_true rfl, Nat.le_of_ble_eq_true rfl⟩
theorem Length.ld_a_d8 (d8 : Byte) : Length.Statement (.ld_a_d8 d8) :=
  ⟨@id (2 = lengthByFirst 0x3E) rfl, Nat.le_of_ble_eq_true rfl, Nat.le_of_ble_eq_true rfl⟩
theorem Length.jp_nz_a16 (a16 : Word) : Length.Statement (.jp_nz_a16 a16) :=
  ⟨@id (3 = lengthByFirst 0xC2) rfl, Nat.le_of_ble_eq_true rfl, Nat.le_of_ble_eq_true rfl⟩
theorem Length.jp_a16 (a16 : Word) : Length.Statement (.jp_a16 a16) :=
  ⟨@id (3 = lengthByFirst 0xC3) rfl, Nat.le_of_ble_eq_true rfl, Nat.le_of_ble_eq_true rfl⟩
theorem Length.call_nz_a16 (a16 : Word) : Length.Statement (.call_nz_a16 a16) :=
  ⟨@id (3 = lengthByFirst 0xC4) rfl, Nat.le_of_ble_eq_true rfl, Nat.le_of_ble_eq_true rfl⟩
theorem Length.add_a_d8 (d8 : Byte) : Length.Statement (.add_a_d8 d8) :=
  ⟨@id (2 = lengthByFirst 0xC6) rfl, Nat.le_of_ble_eq_true rfl, Nat.le_of_ble_eq_true rfl⟩
theorem Length.jp_z_a16 (a16 : Word) : Length.Statement (.jp_z_a16 a16) :=
  ⟨@id (3 = lengthByFirst 0xCA) rfl, Nat.le_of_ble_eq_true rfl, Nat.le_of_ble_eq_true rfl⟩
theorem Length.prefix_cb (cb : Byte) : Length.Statement (.prefix_cb cb) :=
  ⟨@id (2 = lengthByFirst 0xCB) rfl, Nat.le_of_ble_eq_true rfl, Nat.le_of_ble_eq_true rfl⟩
theorem Length.call_z_a16 (a16 : Word) : Length.Statement (.call_z_a16 a16) :=
  ⟨@id (3 = lengthByFirst 0xCC) rfl, Nat.le_of_ble_eq_true rfl, Nat.le_of_ble_eq_true rfl⟩
theorem Length.call_a16 (a16 : Word) : Length.Statement (.call_a16 a16) :=
  ⟨@id (3 = lengthByFirst 0xCD) rfl, Nat.le_of_ble_eq_true rfl, Nat.le_of_ble_eq_true rfl⟩
theorem Length.adc_a_d8 (d8 : Byte) : Length.Statement (.adc_a_d8 d8) :=
  ⟨@id (2 = lengthByFirst 0xCE) rfl, Nat.le_of_ble_eq_true rfl, Nat.le_of_ble_eq_true rfl⟩
theorem Length.jp_nc_a16 (a16 : Word) : Length.Statement (.jp_nc_a16 a16) :=
  ⟨@id (3 = lengthByFirst 0xD2) rfl, Nat.le_of_ble_eq_true rfl, Nat.le_of_ble_eq_true rfl⟩
theorem Length.call_nc_a16 (a16 : Word) : Length.Statement (.call_nc_a16 a16) :=
  ⟨@id (3 = lengthByFirst 0xD4) rfl, Nat.le_of_ble_eq_true rfl, Nat.le_of_ble_eq_true rfl⟩
theorem Length.sub_a_d8 (d8 : Byte) : Length.Statement (.sub_a_d8 d8) :=
  ⟨@id (2 = lengthByFirst 0xD6) rfl, Nat.le_of_ble_eq_true rfl, Nat.le_of_ble_eq_true rfl⟩
theorem Length.jp_c_a16 (a16 : Word) : Length.Statement (.jp_c_a16 a16) :=
  ⟨@id (3 = lengthByFirst 0xDA) rfl, Nat.le_of_ble_eq_true rfl, Nat.le_of_ble_eq_true rfl⟩
theorem Length.call_c_a16 (a16 : Word) : Length.Statement (.call_c_a16 a16) :=
  ⟨@id (3 = lengthByFirst 0xDC) rfl, Nat.le_of_ble_eq_true rfl, Nat.le_of_ble_eq_true rfl⟩
theorem Length.sbc_a_d8 (d8 : Byte) : Length.Statement (.sbc_a_d8 d8) :=
  ⟨@id (2 = lengthByFirst 0xDE) rfl, Nat.le_of_ble_eq_true rfl, Nat.le_of_ble_eq_true rfl⟩
theorem Length.ldh_at_a8_a (a8 : Byte) : Length.Statement (.ldh_at_a8_a a8) :=
  ⟨@id (2 = lengthByFirst 0xE0) rfl, Nat.le_of_ble_eq_true rfl, Nat.le_of_ble_eq_true rfl⟩
theorem Length.and_a_d8 (d8 : Byte) : Length.Statement (.and_a_d8 d8) :=
  ⟨@id (2 = lengthByFirst 0xE6) rfl, Nat.le_of_ble_eq_true rfl, Nat.le_of_ble_eq_true rfl⟩
theorem Length.add_sp_r8 (r8 : Byte) : Length.Statement (.add_sp_r8 r8) :=
  ⟨@id (2 = lengthByFirst 0xE8) rfl, Nat.le_of_ble_eq_true rfl, Nat.le_of_ble_eq_true rfl⟩
theorem Length.ld_at_a16_a (a16 : Word) : Length.Statement (.ld_at_a16_a a16) :=
  ⟨@id (3 = lengthByFirst 0xEA) rfl, Nat.le_of_ble_eq_true rfl, Nat.le_of_ble_eq_true rfl⟩
theorem Length.xor_a_d8 (d8 : Byte) : Length.Statement (.xor_a_d8 d8) :=
  ⟨@id (2 = lengthByFirst 0xEE) rfl, Nat.le_of_ble_eq_true rfl, Nat.le_of_ble_eq_true rfl⟩
theorem Length.ldh_a_at_a8 (a8 : Byte) : Length.Statement (.ldh_a_at_a8 a8) :=
  ⟨@id (2 = lengthByFirst 0xF0) rfl, Nat.le_of_ble_eq_true rfl, Nat.le_of_ble_eq_true rfl⟩
theorem Length.or_a_d8 (d8 : Byte) : Length.Statement (.or_a_d8 d8) :=
  ⟨@id (2 = lengthByFirst 0xF6) rfl, Nat.le_of_ble_eq_true rfl, Nat.le_of_ble_eq_true rfl⟩
theorem Length.ld_hl_sp_r8 (r8 : Byte) : Length.Statement (.ld_hl_sp_r8 r8) :=
  ⟨@id (2 = lengthByFirst 0xF8) rfl, Nat.le_of_ble_eq_true rfl, Nat.le_of_ble_eq_true rfl⟩
theorem Length.ld_a_at_a16 (a16 : Word) : Length.Statement (.ld_a_at_a16 a16) :=
  ⟨@id (3 = lengthByFirst 0xFA) rfl, Nat.le_of_ble_eq_true rfl, Nat.le_of_ble_eq_true rfl⟩
theorem Length.cp_a_d8 (d8 : Byte) : Length.Statement (.cp_a_d8 d8) :=
  ⟨@id (2 = lengthByFirst 0xFE) rfl, Nat.le_of_ble_eq_true rfl, Nat.le_of_ble_eq_true rfl⟩
theorem Length.nop : Length.Statement .nop := ⟨rfl, Nat.le_of_ble_eq_true rfl, Nat.le_of_ble_eq_true rfl⟩
theorem Length.ld_at_bc_a : Length.Statement .ld_at_bc_a := ⟨rfl, Nat.le_of_ble_eq_true rfl, Nat.le_of_ble_eq_true rfl⟩
theorem Length.inc_bc : Length.Statement .inc_bc := ⟨rfl, Nat.le_of_ble_eq_true rfl, Nat.le_of_ble_eq_true rfl⟩
theorem Length.inc_b : Length.Statement .inc_b := ⟨rfl, Nat.le_of_ble_eq_true rfl, Nat.le_of_ble_eq_true rfl⟩
theorem Length.dec_b : Length.Statement .dec_b := ⟨rfl, Nat.le_of_ble_eq_true rfl, Nat.le_of_ble_eq_true rfl⟩
theorem Length.rlca : Length.Statement .rlca := ⟨rfl, Nat.le_of_ble_eq_true rfl, Nat.le_of_ble_eq_true rfl⟩
theorem Length.add_hl_bc : Length.Statement .add_hl_bc := ⟨rfl, Nat.le_of_ble_eq_true rfl, Nat.le_of_ble_eq_true rfl⟩
theorem Length.ld_a_at_bc : Length.Statement .ld_a_at_bc := ⟨rfl, Nat.le_of_ble_eq_true rfl, Nat.le_of_ble_eq_true rfl⟩
theorem Length.dec_bc : Length.Statement .dec_bc := ⟨rfl, Nat.le_of_ble_eq_true rfl, Nat.le_of_ble_eq_true rfl⟩
theorem Length.inc_c : Length.Statement .inc_c := ⟨rfl, Nat.le_of_ble_eq_true rfl, Nat.le_of_ble_eq_true rfl⟩
theorem Length.dec_c : Length.Statement .dec_c := ⟨rfl, Nat.le_of_ble_eq_true rfl, Nat.le_of_ble_eq_true rfl⟩
theorem Length.rrca : Length.Statement .rrca := ⟨rfl, Nat.le_of_ble_eq_true rfl, Nat.le_of_ble_eq_true rfl⟩
theorem Length.ld_at_de_a : Length.Statement .ld_at_de_a := ⟨rfl, Nat.le_of_ble_eq_true rfl, Nat.le_of_ble_eq_true rfl⟩
theorem Length.inc_de : Length.Statement .inc_de := ⟨rfl, Nat.le_of_ble_eq_true rfl, Nat.le_of_ble_eq_true rfl⟩
theorem Length.inc_d : Length.Statement .inc_d := ⟨rfl, Nat.le_of_ble_eq_true rfl, Nat.le_of_ble_eq_true rfl⟩
theorem Length.dec_d : Length.Statement .dec_d := ⟨rfl, Nat.le_of_ble_eq_true rfl, Nat.le_of_ble_eq_true rfl⟩
theorem Length.rla : Length.Statement .rla := ⟨rfl, Nat.le_of_ble_eq_true rfl, Nat.le_of_ble_eq_true rfl⟩
theorem Length.add_hl_de : Length.Statement .add_hl_de := ⟨rfl, Nat.le_of_ble_eq_true rfl, Nat.le_of_ble_eq_true rfl⟩
theorem Length.ld_a_at_de : Length.Statement .ld_a_at_de := ⟨rfl, Nat.le_of_ble_eq_true rfl, Nat.le_of_ble_eq_true rfl⟩
theorem Length.dec_de : Length.Statement .dec_de := ⟨rfl, Nat.le_of_ble_eq_true rfl, Nat.le_of_ble_eq_true rfl⟩
theorem Length.inc_e : Length.Statement .inc_e := ⟨rfl, Nat.le_of_ble_eq_true rfl, Nat.le_of_ble_eq_true rfl⟩
theorem Length.dec_e : Length.Statement .dec_e := ⟨rfl, Nat.le_of_ble_eq_true rfl, Nat.le_of_ble_eq_true rfl⟩
theorem Length.rra : Length.Statement .rra := ⟨rfl, Nat.le_of_ble_eq_true rfl, Nat.le_of_ble_eq_true rfl⟩
theorem Length.ld_at_hli_a : Length.Statement .ld_at_hli_a := ⟨rfl, Nat.le_of_ble_eq_true rfl, Nat.le_of_ble_eq_true rfl⟩
theorem Length.inc_hl : Length.Statement .inc_hl := ⟨rfl, Nat.le_of_ble_eq_true rfl, Nat.le_of_ble_eq_true rfl⟩
theorem Length.inc_h : Length.Statement .inc_h := ⟨rfl, Nat.le_of_ble_eq_true rfl, Nat.le_of_ble_eq_true rfl⟩
theorem Length.dec_h : Length.Statement .dec_h := ⟨rfl, Nat.le_of_ble_eq_true rfl, Nat.le_of_ble_eq_true rfl⟩
theorem Length.daa : Length.Statement .daa := ⟨rfl, Nat.le_of_ble_eq_true rfl, Nat.le_of_ble_eq_true rfl⟩
theorem Length.add_hl_hl : Length.Statement .add_hl_hl := ⟨rfl, Nat.le_of_ble_eq_true rfl, Nat.le_of_ble_eq_true rfl⟩
theorem Length.ld_a_at_hli : Length.Statement .ld_a_at_hli := ⟨rfl, Nat.le_of_ble_eq_true rfl, Nat.le_of_ble_eq_true rfl⟩
theorem Length.dec_hl : Length.Statement .dec_hl := ⟨rfl, Nat.le_of_ble_eq_true rfl, Nat.le_of_ble_eq_true rfl⟩
theorem Length.inc_l : Length.Statement .inc_l := ⟨rfl, Nat.le_of_ble_eq_true rfl, Nat.le_of_ble_eq_true rfl⟩
theorem Length.dec_l : Length.Statement .dec_l := ⟨rfl, Nat.le_of_ble_eq_true rfl, Nat.le_of_ble_eq_true rfl⟩
theorem Length.cpl : Length.Statement .cpl := ⟨rfl, Nat.le_of_ble_eq_true rfl, Nat.le_of_ble_eq_true rfl⟩
theorem Length.ld_at_hld_a : Length.Statement .ld_at_hld_a := ⟨rfl, Nat.le_of_ble_eq_true rfl, Nat.le_of_ble_eq_true rfl⟩
theorem Length.inc_sp : Length.Statement .inc_sp := ⟨rfl, Nat.le_of_ble_eq_true rfl, Nat.le_of_ble_eq_true rfl⟩
theorem Length.inc_at_hl : Length.Statement .inc_at_hl := ⟨rfl, Nat.le_of_ble_eq_true rfl, Nat.le_of_ble_eq_true rfl⟩
theorem Length.dec_at_hl : Length.Statement .dec_at_hl := ⟨rfl, Nat.le_of_ble_eq_true rfl, Nat.le_of_ble_eq_true rfl⟩
theorem Length.scf : Length.Statement .scf := ⟨rfl, Nat.le_of_ble_eq_true rfl, Nat.le_of_ble_eq_true rfl⟩
theorem Length.add_hl_sp : Length.Statement .add_hl_sp := ⟨rfl, Nat.le_of_ble_eq_true rfl, Nat.le_of_ble_eq_true rfl⟩
theorem Length.ld_a_at_hld : Length.Statement .ld_a_at_hld := ⟨rfl, Nat.le_of_ble_eq_true rfl, Nat.le_of_ble_eq_true rfl⟩
theorem Length.dec_sp : Length.Statement .dec_sp := ⟨rfl, Nat.le_of_ble_eq_true rfl, Nat.le_of_ble_eq_true rfl⟩
theorem Length.inc_a : Length.Statement .inc_a := ⟨rfl, Nat.le_of_ble_eq_true rfl, Nat.le_of_ble_eq_true rfl⟩
theorem Length.dec_a : Length.Statement .dec_a := ⟨rfl, Nat.le_of_ble_eq_true rfl, Nat.le_of_ble_eq_true rfl⟩
theorem Length.ccf : Length.Statement .ccf := ⟨rfl, Nat.le_of_ble_eq_true rfl, Nat.le_of_ble_eq_true rfl⟩
theorem Length.ld_b_b : Length.Statement .ld_b_b := ⟨rfl, Nat.le_of_ble_eq_true rfl, Nat.le_of_ble_eq_true rfl⟩
theorem Length.ld_b_c : Length.Statement .ld_b_c := ⟨rfl, Nat.le_of_ble_eq_true rfl, Nat.le_of_ble_eq_true rfl⟩
theorem Length.ld_b_d : Length.Statement .ld_b_d := ⟨rfl, Nat.le_of_ble_eq_true rfl, Nat.le_of_ble_eq_true rfl⟩
theorem Length.ld_b_e : Length.Statement .ld_b_e := ⟨rfl, Nat.le_of_ble_eq_true rfl, Nat.le_of_ble_eq_true rfl⟩
theorem Length.ld_b_h : Length.Statement .ld_b_h := ⟨rfl, Nat.le_of_ble_eq_true rfl, Nat.le_of_ble_eq_true rfl⟩
theorem Length.ld_b_l : Length.Statement .ld_b_l := ⟨rfl, Nat.le_of_ble_eq_true rfl, Nat.le_of_ble_eq_true rfl⟩
theorem Length.ld_b_at_hl : Length.Statement .ld_b_at_hl := ⟨rfl, Nat.le_of_ble_eq_true rfl, Nat.le_of_ble_eq_true rfl⟩
theorem Length.ld_b_a : Length.Statement .ld_b_a := ⟨rfl, Nat.le_of_ble_eq_true rfl, Nat.le_of_ble_eq_true rfl⟩
theorem Length.ld_c_b : Length.Statement .ld_c_b := ⟨rfl, Nat.le_of_ble_eq_true rfl, Nat.le_of_ble_eq_true rfl⟩
theorem Length.ld_c_c : Length.Statement .ld_c_c := ⟨rfl, Nat.le_of_ble_eq_true rfl, Nat.le_of_ble_eq_true rfl⟩
theorem Length.ld_c_d : Length.Statement .ld_c_d := ⟨rfl, Nat.le_of_ble_eq_true rfl, Nat.le_of_ble_eq_true rfl⟩
theorem Length.ld_c_e : Length.Statement .ld_c_e := ⟨rfl, Nat.le_of_ble_eq_true rfl, Nat.le_of_ble_eq_true rfl⟩
theorem Length.ld_c_h : Length.Statement .ld_c_h := ⟨rfl, Nat.le_of_ble_eq_true rfl, Nat.le_of_ble_eq_true rfl⟩
theorem Length.ld_c_l : Length.Statement .ld_c_l := ⟨rfl, Nat.le_of_ble_eq_true rfl, Nat.le_of_ble_eq_true rfl⟩
theorem Length.ld_c_at_hl : Length.Statement .ld_c_at_hl := ⟨rfl, Nat.le_of_ble_eq_true rfl, Nat.le_of_ble_eq_true rfl⟩
theorem Length.ld_c_a : Length.Statement .ld_c_a := ⟨rfl, Nat.le_of_ble_eq_true rfl, Nat.le_of_ble_eq_true rfl⟩
theorem Length.ld_d_b : Length.Statement .ld_d_b := ⟨rfl, Nat.le_of_ble_eq_true rfl, Nat.le_of_ble_eq_true rfl⟩
theorem Length.ld_d_c : Length.Statement .ld_d_c := ⟨rfl, Nat.le_of_ble_eq_true rfl, Nat.le_of_ble_eq_true rfl⟩
theorem Length.ld_d_d : Length.Statement .ld_d_d := ⟨rfl, Nat.le_of_ble_eq_true rfl, Nat.le_of_ble_eq_true rfl⟩
theorem Length.ld_d_e : Length.Statement .ld_d_e := ⟨rfl, Nat.le_of_ble_eq_true rfl, Nat.le_of_ble_eq_true rfl⟩
theorem Length.ld_d_h : Length.Statement .ld_d_h := ⟨rfl, Nat.le_of_ble_eq_true rfl, Nat.le_of_ble_eq_true rfl⟩
theorem Length.ld_d_l : Length.Statement .ld_d_l := ⟨rfl, Nat.le_of_ble_eq_true rfl, Nat.le_of_ble_eq_true rfl⟩
theorem Length.ld_d_at_hl : Length.Statement .ld_d_at_hl := ⟨rfl, Nat.le_of_ble_eq_true rfl, Nat.le_of_ble_eq_true rfl⟩
theorem Length.ld_d_a : Length.Statement .ld_d_a := ⟨rfl, Nat.le_of_ble_eq_true rfl, Nat.le_of_ble_eq_true rfl⟩
theorem Length.ld_e_b : Length.Statement .ld_e_b := ⟨rfl, Nat.le_of_ble_eq_true rfl, Nat.le_of_ble_eq_true rfl⟩
theorem Length.ld_e_c : Length.Statement .ld_e_c := ⟨rfl, Nat.le_of_ble_eq_true rfl, Nat.le_of_ble_eq_true rfl⟩
theorem Length.ld_e_d : Length.Statement .ld_e_d := ⟨rfl, Nat.le_of_ble_eq_true rfl, Nat.le_of_ble_eq_true rfl⟩
theorem Length.ld_e_e : Length.Statement .ld_e_e := ⟨rfl, Nat.le_of_ble_eq_true rfl, Nat.le_of_ble_eq_true rfl⟩
theorem Length.ld_e_h : Length.Statement .ld_e_h := ⟨rfl, Nat.le_of_ble_eq_true rfl, Nat.le_of_ble_eq_true rfl⟩
theorem Length.ld_e_l : Length.Statement .ld_e_l := ⟨rfl, Nat.le_of_ble_eq_true rfl, Nat.le_of_ble_eq_true rfl⟩
theorem Length.ld_e_at_hl : Length.Statement .ld_e_at_hl := ⟨rfl, Nat.le_of_ble_eq_true rfl, Nat.le_of_ble_eq_true rfl⟩
theorem Length.ld_e_a : Length.Statement .ld_e_a := ⟨rfl, Nat.le_of_ble_eq_true rfl, Nat.le_of_ble_eq_true rfl⟩
theorem Length.ld_h_b : Length.Statement .ld_h_b := ⟨rfl, Nat.le_of_ble_eq_true rfl, Nat.le_of_ble_eq_true rfl⟩
theorem Length.ld_h_c : Length.Statement .ld_h_c := ⟨rfl, Nat.le_of_ble_eq_true rfl, Nat.le_of_ble_eq_true rfl⟩
theorem Length.ld_h_d : Length.Statement .ld_h_d := ⟨rfl, Nat.le_of_ble_eq_true rfl, Nat.le_of_ble_eq_true rfl⟩
theorem Length.ld_h_e : Length.Statement .ld_h_e := ⟨rfl, Nat.le_of_ble_eq_true rfl, Nat.le_of_ble_eq_true rfl⟩
theorem Length.ld_h_h : Length.Statement .ld_h_h := ⟨rfl, Nat.le_of_ble_eq_true rfl, Nat.le_of_ble_eq_true rfl⟩
theorem Length.ld_h_l : Length.Statement .ld_h_l := ⟨rfl, Nat.le_of_ble_eq_true rfl, Nat.le_of_ble_eq_true rfl⟩
theorem Length.ld_h_at_hl : Length.Statement .ld_h_at_hl := ⟨rfl, Nat.le_of_ble_eq_true rfl, Nat.le_of_ble_eq_true rfl⟩
theorem Length.ld_h_a : Length.Statement .ld_h_a := ⟨rfl, Nat.le_of_ble_eq_true rfl, Nat.le_of_ble_eq_true rfl⟩
theorem Length.ld_l_b : Length.Statement .ld_l_b := ⟨rfl, Nat.le_of_ble_eq_true rfl, Nat.le_of_ble_eq_true rfl⟩
theorem Length.ld_l_c : Length.Statement .ld_l_c := ⟨rfl, Nat.le_of_ble_eq_true rfl, Nat.le_of_ble_eq_true rfl⟩
theorem Length.ld_l_d : Length.Statement .ld_l_d := ⟨rfl, Nat.le_of_ble_eq_true rfl, Nat.le_of_ble_eq_true rfl⟩
theorem Length.ld_l_e : Length.Statement .ld_l_e := ⟨rfl, Nat.le_of_ble_eq_true rfl, Nat.le_of_ble_eq_true rfl⟩
theorem Length.ld_l_h : Length.Statement .ld_l_h := ⟨rfl, Nat.le_of_ble_eq_true rfl, Nat.le_of_ble_eq_true rfl⟩
theorem Length.ld_l_l : Length.Statement .ld_l_l := ⟨rfl, Nat.le_of_ble_eq_true rfl, Nat.le_of_ble_eq_true rfl⟩
theorem Length.ld_l_at_hl : Length.Statement .ld_l_at_hl := ⟨rfl, Nat.le_of_ble_eq_true rfl, Nat.le_of_ble_eq_true rfl⟩
theorem Length.ld_l_a : Length.Statement .ld_l_a := ⟨rfl, Nat.le_of_ble_eq_true rfl, Nat.le_of_ble_eq_true rfl⟩
theorem Length.ld_at_hl_b : Length.Statement .ld_at_hl_b := ⟨rfl, Nat.le_of_ble_eq_true rfl, Nat.le_of_ble_eq_true rfl⟩
theorem Length.ld_at_hl_c : Length.Statement .ld_at_hl_c := ⟨rfl, Nat.le_of_ble_eq_true rfl, Nat.le_of_ble_eq_true rfl⟩
theorem Length.ld_at_hl_d : Length.Statement .ld_at_hl_d := ⟨rfl, Nat.le_of_ble_eq_true rfl, Nat.le_of_ble_eq_true rfl⟩
theorem Length.ld_at_hl_e : Length.Statement .ld_at_hl_e := ⟨rfl, Nat.le_of_ble_eq_true rfl, Nat.le_of_ble_eq_true rfl⟩
theorem Length.ld_at_hl_h : Length.Statement .ld_at_hl_h := ⟨rfl, Nat.le_of_ble_eq_true rfl, Nat.le_of_ble_eq_true rfl⟩
theorem Length.ld_at_hl_l : Length.Statement .ld_at_hl_l := ⟨rfl, Nat.le_of_ble_eq_true rfl, Nat.le_of_ble_eq_true rfl⟩
theorem Length.halt : Length.Statement .halt := ⟨rfl, Nat.le_of_ble_eq_true rfl, Nat.le_of_ble_eq_true rfl⟩
theorem Length.ld_at_hl_a : Length.Statement .ld_at_hl_a := ⟨rfl, Nat.le_of_ble_eq_true rfl, Nat.le_of_ble_eq_true rfl⟩
theorem Length.ld_a_b : Length.Statement .ld_a_b := ⟨rfl, Nat.le_of_ble_eq_true rfl, Nat.le_of_ble_eq_true rfl⟩
theorem Length.ld_a_c : Length.Statement .ld_a_c := ⟨rfl, Nat.le_of_ble_eq_true rfl, Nat.le_of_ble_eq_true rfl⟩
theorem Length.ld_a_d : Length.Statement .ld_a_d := ⟨rfl, Nat.le_of_ble_eq_true rfl, Nat.le_of_ble_eq_true rfl⟩
theorem Length.ld_a_e : Length.Statement .ld_a_e := ⟨rfl, Nat.le_of_ble_eq_true rfl, Nat.le_of_ble_eq_true rfl⟩
theorem Length.ld_a_h : Length.Statement .ld_a_h := ⟨rfl, Nat.le_of_ble_eq_true rfl, Nat.le_of_ble_eq_true rfl⟩
theorem Length.ld_a_l : Length.Statement .ld_a_l := ⟨rfl, Nat.le_of_ble_eq_true rfl, Nat.le_of_ble_eq_true rfl⟩
theorem Length.ld_a_at_hl : Length.Statement .ld_a_at_hl := ⟨rfl, Nat.le_of_ble_eq_true rfl, Nat.le_of_ble_eq_true rfl⟩
theorem Length.ld_a_a : Length.Statement .ld_a_a := ⟨rfl, Nat.le_of_ble_eq_true rfl, Nat.le_of_ble_eq_true rfl⟩
theorem Length.add_a_b : Length.Statement .add_a_b := ⟨rfl, Nat.le_of_ble_eq_true rfl, Nat.le_of_ble_eq_true rfl⟩
theorem Length.add_a_c : Length.Statement .add_a_c := ⟨rfl, Nat.le_of_ble_eq_true rfl, Nat.le_of_ble_eq_true rfl⟩
theorem Length.add_a_d : Length.Statement .add_a_d := ⟨rfl, Nat.le_of_ble_eq_true rfl, Nat.le_of_ble_eq_true rfl⟩
theorem Length.add_a_e : Length.Statement .add_a_e := ⟨rfl, Nat.le_of_ble_eq_true rfl, Nat.le_of_ble_eq_true rfl⟩
theorem Length.add_a_h : Length.Statement .add_a_h := ⟨rfl, Nat.le_of_ble_eq_true rfl, Nat.le_of_ble_eq_true rfl⟩
theorem Length.add_a_l : Length.Statement .add_a_l := ⟨rfl, Nat.le_of_ble_eq_true rfl, Nat.le_of_ble_eq_true rfl⟩
theorem Length.add_a_at_hl : Length.Statement .add_a_at_hl := ⟨rfl, Nat.le_of_ble_eq_true rfl, Nat.le_of_ble_eq_true rfl⟩
theorem Length.add_a_a : Length.Statement .add_a_a := ⟨rfl, Nat.le_of_ble_eq_true rfl, Nat.le_of_ble_eq_true rfl⟩
theorem Length.adc_a_b : Length.Statement .adc_a_b := ⟨rfl, Nat.le_of_ble_eq_true rfl, Nat.le_of_ble_eq_true rfl⟩
theorem Length.adc_a_c : Length.Statement .adc_a_c := ⟨rfl, Nat.le_of_ble_eq_true rfl, Nat.le_of_ble_eq_true rfl⟩
theorem Length.adc_a_d : Length.Statement .adc_a_d := ⟨rfl, Nat.le_of_ble_eq_true rfl, Nat.le_of_ble_eq_true rfl⟩
theorem Length.adc_a_e : Length.Statement .adc_a_e := ⟨rfl, Nat.le_of_ble_eq_true rfl, Nat.le_of_ble_eq_true rfl⟩
theorem Length.adc_a_h : Length.Statement .adc_a_h := ⟨rfl, Nat.le_of_ble_eq_true rfl, Nat.le_of_ble_eq_true rfl⟩
theorem Length.adc_a_l : Length.Statement .adc_a_l := ⟨rfl, Nat.le_of_ble_eq_true rfl, Nat.le_of_ble_eq_true rfl⟩
theorem Length.adc_a_at_hl : Length.Statement .adc_a_at_hl := ⟨rfl, Nat.le_of_ble_eq_true rfl, Nat.le_of_ble_eq_true rfl⟩
theorem Length.adc_a_a : Length.Statement .adc_a_a := ⟨rfl, Nat.le_of_ble_eq_true rfl, Nat.le_of_ble_eq_true rfl⟩
theorem Length.sub_a_b : Length.Statement .sub_a_b := ⟨rfl, Nat.le_of_ble_eq_true rfl, Nat.le_of_ble_eq_true rfl⟩
theorem Length.sub_a_c : Length.Statement .sub_a_c := ⟨rfl, Nat.le_of_ble_eq_true rfl, Nat.le_of_ble_eq_true rfl⟩
theorem Length.sub_a_d : Length.Statement .sub_a_d := ⟨rfl, Nat.le_of_ble_eq_true rfl, Nat.le_of_ble_eq_true rfl⟩
theorem Length.sub_a_e : Length.Statement .sub_a_e := ⟨rfl, Nat.le_of_ble_eq_true rfl, Nat.le_of_ble_eq_true rfl⟩
theorem Length.sub_a_h : Length.Statement .sub_a_h := ⟨rfl, Nat.le_of_ble_eq_true rfl, Nat.le_of_ble_eq_true rfl⟩
theorem Length.sub_a_l : Length.Statement .sub_a_l := ⟨rfl, Nat.le_of_ble_eq_true rfl, Nat.le_of_ble_eq_true rfl⟩
theorem Length.sub_a_at_hl : Length.Statement .sub_a_at_hl := ⟨rfl, Nat.le_of_ble_eq_true rfl, Nat.le_of_ble_eq_true rfl⟩
theorem Length.sub_a_a : Length.Statement .sub_a_a := ⟨rfl, Nat.le_of_ble_eq_true rfl, Nat.le_of_ble_eq_true rfl⟩
theorem Length.sbc_a_b : Length.Statement .sbc_a_b := ⟨rfl, Nat.le_of_ble_eq_true rfl, Nat.le_of_ble_eq_true rfl⟩
theorem Length.sbc_a_c : Length.Statement .sbc_a_c := ⟨rfl, Nat.le_of_ble_eq_true rfl, Nat.le_of_ble_eq_true rfl⟩
theorem Length.sbc_a_d : Length.Statement .sbc_a_d := ⟨rfl, Nat.le_of_ble_eq_true rfl, Nat.le_of_ble_eq_true rfl⟩
theorem Length.sbc_a_e : Length.Statement .sbc_a_e := ⟨rfl, Nat.le_of_ble_eq_true rfl, Nat.le_of_ble_eq_true rfl⟩
theorem Length.sbc_a_h : Length.Statement .sbc_a_h := ⟨rfl, Nat.le_of_ble_eq_true rfl, Nat.le_of_ble_eq_true rfl⟩
theorem Length.sbc_a_l : Length.Statement .sbc_a_l := ⟨rfl, Nat.le_of_ble_eq_true rfl, Nat.le_of_ble_eq_true rfl⟩
theorem Length.sbc_a_at_hl : Length.Statement .sbc_a_at_hl := ⟨rfl, Nat.le_of_ble_eq_true rfl, Nat.le_of_ble_eq_true rfl⟩
theorem Length.sbc_a_a : Length.Statement .sbc_a_a := ⟨rfl, Nat.le_of_ble_eq_true rfl, Nat.le_of_ble_eq_true rfl⟩
theorem Length.and_a_b : Length.Statement .and_a_b := ⟨rfl, Nat.le_of_ble_eq_true rfl, Nat.le_of_ble_eq_true rfl⟩
theorem Length.and_a_c : Length.Statement .and_a_c := ⟨rfl, Nat.le_of_ble_eq_true rfl, Nat.le_of_ble_eq_true rfl⟩
theorem Length.and_a_d : Length.Statement .and_a_d := ⟨rfl, Nat.le_of_ble_eq_true rfl, Nat.le_of_ble_eq_true rfl⟩
theorem Length.and_a_e : Length.Statement .and_a_e := ⟨rfl, Nat.le_of_ble_eq_true rfl, Nat.le_of_ble_eq_true rfl⟩
theorem Length.and_a_h : Length.Statement .and_a_h := ⟨rfl, Nat.le_of_ble_eq_true rfl, Nat.le_of_ble_eq_true rfl⟩
theorem Length.and_a_l : Length.Statement .and_a_l := ⟨rfl, Nat.le_of_ble_eq_true rfl, Nat.le_of_ble_eq_true rfl⟩
theorem Length.and_a_at_hl : Length.Statement .and_a_at_hl := ⟨rfl, Nat.le_of_ble_eq_true rfl, Nat.le_of_ble_eq_true rfl⟩
theorem Length.and_a_a : Length.Statement .and_a_a := ⟨rfl, Nat.le_of_ble_eq_true rfl, Nat.le_of_ble_eq_true rfl⟩
theorem Length.xor_a_b : Length.Statement .xor_a_b := ⟨rfl, Nat.le_of_ble_eq_true rfl, Nat.le_of_ble_eq_true rfl⟩
theorem Length.xor_a_c : Length.Statement .xor_a_c := ⟨rfl, Nat.le_of_ble_eq_true rfl, Nat.le_of_ble_eq_true rfl⟩
theorem Length.xor_a_d : Length.Statement .xor_a_d := ⟨rfl, Nat.le_of_ble_eq_true rfl, Nat.le_of_ble_eq_true rfl⟩
theorem Length.xor_a_e : Length.Statement .xor_a_e := ⟨rfl, Nat.le_of_ble_eq_true rfl, Nat.le_of_ble_eq_true rfl⟩
theorem Length.xor_a_h : Length.Statement .xor_a_h := ⟨rfl, Nat.le_of_ble_eq_true rfl, Nat.le_of_ble_eq_true rfl⟩
theorem Length.xor_a_l : Length.Statement .xor_a_l := ⟨rfl, Nat.le_of_ble_eq_true rfl, Nat.le_of_ble_eq_true rfl⟩
theorem Length.xor_a_at_hl : Length.Statement .xor_a_at_hl := ⟨rfl, Nat.le_of_ble_eq_true rfl, Nat.le_of_ble_eq_true rfl⟩
theorem Length.xor_a_a : Length.Statement .xor_a_a := ⟨rfl, Nat.le_of_ble_eq_true rfl, Nat.le_of_ble_eq_true rfl⟩
theorem Length.or_a_b : Length.Statement .or_a_b := ⟨rfl, Nat.le_of_ble_eq_true rfl, Nat.le_of_ble_eq_true rfl⟩
theorem Length.or_a_c : Length.Statement .or_a_c := ⟨rfl, Nat.le_of_ble_eq_true rfl, Nat.le_of_ble_eq_true rfl⟩
theorem Length.or_a_d : Length.Statement .or_a_d := ⟨rfl, Nat.le_of_ble_eq_true rfl, Nat.le_of_ble_eq_true rfl⟩
theorem Length.or_a_e : Length.Statement .or_a_e := ⟨rfl, Nat.le_of_ble_eq_true rfl, Nat.le_of_ble_eq_true rfl⟩
theorem Length.or_a_h : Length.Statement .or_a_h := ⟨rfl, Nat.le_of_ble_eq_true rfl, Nat.le_of_ble_eq_true rfl⟩
theorem Length.or_a_l : Length.Statement .or_a_l := ⟨rfl, Nat.le_of_ble_eq_true rfl, Nat.le_of_ble_eq_true rfl⟩
theorem Length.or_a_at_hl : Length.Statement .or_a_at_hl := ⟨rfl, Nat.le_of_ble_eq_true rfl, Nat.le_of_ble_eq_true rfl⟩
theorem Length.or_a_a : Length.Statement .or_a_a := ⟨rfl, Nat.le_of_ble_eq_true rfl, Nat.le_of_ble_eq_true rfl⟩
theorem Length.cp_a_b : Length.Statement .cp_a_b := ⟨rfl, Nat.le_of_ble_eq_true rfl, Nat.le_of_ble_eq_true rfl⟩
theorem Length.cp_a_c : Length.Statement .cp_a_c := ⟨rfl, Nat.le_of_ble_eq_true rfl, Nat.le_of_ble_eq_true rfl⟩
theorem Length.cp_a_d : Length.Statement .cp_a_d := ⟨rfl, Nat.le_of_ble_eq_true rfl, Nat.le_of_ble_eq_true rfl⟩
theorem Length.cp_a_e : Length.Statement .cp_a_e := ⟨rfl, Nat.le_of_ble_eq_true rfl, Nat.le_of_ble_eq_true rfl⟩
theorem Length.cp_a_h : Length.Statement .cp_a_h := ⟨rfl, Nat.le_of_ble_eq_true rfl, Nat.le_of_ble_eq_true rfl⟩
theorem Length.cp_a_l : Length.Statement .cp_a_l := ⟨rfl, Nat.le_of_ble_eq_true rfl, Nat.le_of_ble_eq_true rfl⟩
theorem Length.cp_a_at_hl : Length.Statement .cp_a_at_hl := ⟨rfl, Nat.le_of_ble_eq_true rfl, Nat.le_of_ble_eq_true rfl⟩
theorem Length.cp_a_a : Length.Statement .cp_a_a := ⟨rfl, Nat.le_of_ble_eq_true rfl, Nat.le_of_ble_eq_true rfl⟩
theorem Length.ret_nz : Length.Statement .ret_nz := ⟨rfl, Nat.le_of_ble_eq_true rfl, Nat.le_of_ble_eq_true rfl⟩
theorem Length.pop_bc : Length.Statement .pop_bc := ⟨rfl, Nat.le_of_ble_eq_true rfl, Nat.le_of_ble_eq_true rfl⟩
theorem Length.push_bc : Length.Statement .push_bc := ⟨rfl, Nat.le_of_ble_eq_true rfl, Nat.le_of_ble_eq_true rfl⟩
theorem Length.rst_00 : Length.Statement .rst_00 := ⟨rfl, Nat.le_of_ble_eq_true rfl, Nat.le_of_ble_eq_true rfl⟩
theorem Length.ret_z : Length.Statement .ret_z := ⟨rfl, Nat.le_of_ble_eq_true rfl, Nat.le_of_ble_eq_true rfl⟩
theorem Length.ret : Length.Statement .ret := ⟨rfl, Nat.le_of_ble_eq_true rfl, Nat.le_of_ble_eq_true rfl⟩
theorem Length.rst_08 : Length.Statement .rst_08 := ⟨rfl, Nat.le_of_ble_eq_true rfl, Nat.le_of_ble_eq_true rfl⟩
theorem Length.ret_nc : Length.Statement .ret_nc := ⟨rfl, Nat.le_of_ble_eq_true rfl, Nat.le_of_ble_eq_true rfl⟩
theorem Length.pop_de : Length.Statement .pop_de := ⟨rfl, Nat.le_of_ble_eq_true rfl, Nat.le_of_ble_eq_true rfl⟩
theorem Length.hole_d3 : Length.Statement .hole_d3 := ⟨rfl, Nat.le_of_ble_eq_true rfl, Nat.le_of_ble_eq_true rfl⟩
theorem Length.push_de : Length.Statement .push_de := ⟨rfl, Nat.le_of_ble_eq_true rfl, Nat.le_of_ble_eq_true rfl⟩
theorem Length.rst_10 : Length.Statement .rst_10 := ⟨rfl, Nat.le_of_ble_eq_true rfl, Nat.le_of_ble_eq_true rfl⟩
theorem Length.ret_c : Length.Statement .ret_c := ⟨rfl, Nat.le_of_ble_eq_true rfl, Nat.le_of_ble_eq_true rfl⟩
theorem Length.reti : Length.Statement .reti := ⟨rfl, Nat.le_of_ble_eq_true rfl, Nat.le_of_ble_eq_true rfl⟩
theorem Length.hole_db : Length.Statement .hole_db := ⟨rfl, Nat.le_of_ble_eq_true rfl, Nat.le_of_ble_eq_true rfl⟩
theorem Length.hole_dd : Length.Statement .hole_dd := ⟨rfl, Nat.le_of_ble_eq_true rfl, Nat.le_of_ble_eq_true rfl⟩
theorem Length.rst_18 : Length.Statement .rst_18 := ⟨rfl, Nat.le_of_ble_eq_true rfl, Nat.le_of_ble_eq_true rfl⟩
theorem Length.pop_hl : Length.Statement .pop_hl := ⟨rfl, Nat.le_of_ble_eq_true rfl, Nat.le_of_ble_eq_true rfl⟩
theorem Length.ld_at_c_a : Length.Statement .ld_at_c_a := ⟨rfl, Nat.le_of_ble_eq_true rfl, Nat.le_of_ble_eq_true rfl⟩
theorem Length.hole_e3 : Length.Statement .hole_e3 := ⟨rfl, Nat.le_of_ble_eq_true rfl, Nat.le_of_ble_eq_true rfl⟩
theorem Length.hole_e4 : Length.Statement .hole_e4 := ⟨rfl, Nat.le_of_ble_eq_true rfl, Nat.le_of_ble_eq_true rfl⟩
theorem Length.push_hl : Length.Statement .push_hl := ⟨rfl, Nat.le_of_ble_eq_true rfl, Nat.le_of_ble_eq_true rfl⟩
theorem Length.rst_20 : Length.Statement .rst_20 := ⟨rfl, Nat.le_of_ble_eq_true rfl, Nat.le_of_ble_eq_true rfl⟩
theorem Length.jp_at_hl : Length.Statement .jp_at_hl := ⟨rfl, Nat.le_of_ble_eq_true rfl, Nat.le_of_ble_eq_true rfl⟩
theorem Length.hole_eb : Length.Statement .hole_eb := ⟨rfl, Nat.le_of_ble_eq_true rfl, Nat.le_of_ble_eq_true rfl⟩
theorem Length.hole_ec : Length.Statement .hole_ec := ⟨rfl, Nat.le_of_ble_eq_true rfl, Nat.le_of_ble_eq_true rfl⟩
theorem Length.hole_ed : Length.Statement .hole_ed := ⟨rfl, Nat.le_of_ble_eq_true rfl, Nat.le_of_ble_eq_true rfl⟩
theorem Length.rst_28 : Length.Statement .rst_28 := ⟨rfl, Nat.le_of_ble_eq_true rfl, Nat.le_of_ble_eq_true rfl⟩
theorem Length.pop_af : Length.Statement .pop_af := ⟨rfl, Nat.le_of_ble_eq_true rfl, Nat.le_of_ble_eq_true rfl⟩
theorem Length.ld_a_at_c : Length.Statement .ld_a_at_c := ⟨rfl, Nat.le_of_ble_eq_true rfl, Nat.le_of_ble_eq_true rfl⟩
theorem Length.di : Length.Statement .di := ⟨rfl, Nat.le_of_ble_eq_true rfl, Nat.le_of_ble_eq_true rfl⟩
theorem Length.hole_f4 : Length.Statement .hole_f4 := ⟨rfl, Nat.le_of_ble_eq_true rfl, Nat.le_of_ble_eq_true rfl⟩
theorem Length.push_af : Length.Statement .push_af := ⟨rfl, Nat.le_of_ble_eq_true rfl, Nat.le_of_ble_eq_true rfl⟩
theorem Length.rst_30 : Length.Statement .rst_30 := ⟨rfl, Nat.le_of_ble_eq_true rfl, Nat.le_of_ble_eq_true rfl⟩
theorem Length.ld_sp_hl : Length.Statement .ld_sp_hl := ⟨rfl, Nat.le_of_ble_eq_true rfl, Nat.le_of_ble_eq_true rfl⟩
theorem Length.ei : Length.Statement .ei := ⟨rfl, Nat.le_of_ble_eq_true rfl, Nat.le_of_ble_eq_true rfl⟩
theorem Length.hole_fc : Length.Statement .hole_fc := ⟨rfl, Nat.le_of_ble_eq_true rfl, Nat.le_of_ble_eq_true rfl⟩
theorem Length.hole_fd : Length.Statement .hole_fd := ⟨rfl, Nat.le_of_ble_eq_true rfl, Nat.le_of_ble_eq_true rfl⟩
theorem Length.rst_38 : Length.Statement .rst_38 := ⟨rfl, Nat.le_of_ble_eq_true rfl, Nat.le_of_ble_eq_true rfl⟩
theorem Length.rlc_b : Length.Statement .rlc_b := ⟨rfl, Nat.le_of_ble_eq_true rfl, Nat.le_of_ble_eq_true rfl⟩
theorem Length.rlc_c : Length.Statement .rlc_c := ⟨rfl, Nat.le_of_ble_eq_true rfl, Nat.le_of_ble_eq_true rfl⟩
theorem Length.rlc_d : Length.Statement .rlc_d := ⟨rfl, Nat.le_of_ble_eq_true rfl, Nat.le_of_ble_eq_true rfl⟩
theorem Length.rlc_e : Length.Statement .rlc_e := ⟨rfl, Nat.le_of_ble_eq_true rfl, Nat.le_of_ble_eq_true rfl⟩
theorem Length.rlc_h : Length.Statement .rlc_h := ⟨rfl, Nat.le_of_ble_eq_true rfl, Nat.le_of_ble_eq_true rfl⟩
theorem Length.rlc_l : Length.Statement .rlc_l := ⟨rfl, Nat.le_of_ble_eq_true rfl, Nat.le_of_ble_eq_true rfl⟩
theorem Length.rlc_at_hl : Length.Statement .rlc_at_hl := ⟨rfl, Nat.le_of_ble_eq_true rfl, Nat.le_of_ble_eq_true rfl⟩
theorem Length.rlc_a : Length.Statement .rlc_a := ⟨rfl, Nat.le_of_ble_eq_true rfl, Nat.le_of_ble_eq_true rfl⟩
theorem Length.rrc_b : Length.Statement .rrc_b := ⟨rfl, Nat.le_of_ble_eq_true rfl, Nat.le_of_ble_eq_true rfl⟩
theorem Length.rrc_c : Length.Statement .rrc_c := ⟨rfl, Nat.le_of_ble_eq_true rfl, Nat.le_of_ble_eq_true rfl⟩
theorem Length.rrc_d : Length.Statement .rrc_d := ⟨rfl, Nat.le_of_ble_eq_true rfl, Nat.le_of_ble_eq_true rfl⟩
theorem Length.rrc_e : Length.Statement .rrc_e := ⟨rfl, Nat.le_of_ble_eq_true rfl, Nat.le_of_ble_eq_true rfl⟩
theorem Length.rrc_h : Length.Statement .rrc_h := ⟨rfl, Nat.le_of_ble_eq_true rfl, Nat.le_of_ble_eq_true rfl⟩
theorem Length.rrc_l : Length.Statement .rrc_l := ⟨rfl, Nat.le_of_ble_eq_true rfl, Nat.le_of_ble_eq_true rfl⟩
theorem Length.rrc_at_hl : Length.Statement .rrc_at_hl := ⟨rfl, Nat.le_of_ble_eq_true rfl, Nat.le_of_ble_eq_true rfl⟩
theorem Length.rrc_a : Length.Statement .rrc_a := ⟨rfl, Nat.le_of_ble_eq_true rfl, Nat.le_of_ble_eq_true rfl⟩
theorem Length.rl_b : Length.Statement .rl_b := ⟨rfl, Nat.le_of_ble_eq_true rfl, Nat.le_of_ble_eq_true rfl⟩
theorem Length.rl_c : Length.Statement .rl_c := ⟨rfl, Nat.le_of_ble_eq_true rfl, Nat.le_of_ble_eq_true rfl⟩
theorem Length.rl_d : Length.Statement .rl_d := ⟨rfl, Nat.le_of_ble_eq_true rfl, Nat.le_of_ble_eq_true rfl⟩
theorem Length.rl_e : Length.Statement .rl_e := ⟨rfl, Nat.le_of_ble_eq_true rfl, Nat.le_of_ble_eq_true rfl⟩
theorem Length.rl_h : Length.Statement .rl_h := ⟨rfl, Nat.le_of_ble_eq_true rfl, Nat.le_of_ble_eq_true rfl⟩
theorem Length.rl_l : Length.Statement .rl_l := ⟨rfl, Nat.le_of_ble_eq_true rfl, Nat.le_of_ble_eq_true rfl⟩
theorem Length.rl_at_hl : Length.Statement .rl_at_hl := ⟨rfl, Nat.le_of_ble_eq_true rfl, Nat.le_of_ble_eq_true rfl⟩
theorem Length.rl_a : Length.Statement .rl_a := ⟨rfl, Nat.le_of_ble_eq_true rfl, Nat.le_of_ble_eq_true rfl⟩
theorem Length.rr_b : Length.Statement .rr_b := ⟨rfl, Nat.le_of_ble_eq_true rfl, Nat.le_of_ble_eq_true rfl⟩
theorem Length.rr_c : Length.Statement .rr_c := ⟨rfl, Nat.le_of_ble_eq_true rfl, Nat.le_of_ble_eq_true rfl⟩
theorem Length.rr_d : Length.Statement .rr_d := ⟨rfl, Nat.le_of_ble_eq_true rfl, Nat.le_of_ble_eq_true rfl⟩
theorem Length.rr_e : Length.Statement .rr_e := ⟨rfl, Nat.le_of_ble_eq_true rfl, Nat.le_of_ble_eq_true rfl⟩
theorem Length.rr_h : Length.Statement .rr_h := ⟨rfl, Nat.le_of_ble_eq_true rfl, Nat.le_of_ble_eq_true rfl⟩
theorem Length.rr_l : Length.Statement .rr_l := ⟨rfl, Nat.le_of_ble_eq_true rfl, Nat.le_of_ble_eq_true rfl⟩
theorem Length.rr_at_hl : Length.Statement .rr_at_hl := ⟨rfl, Nat.le_of_ble_eq_true rfl, Nat.le_of_ble_eq_true rfl⟩
theorem Length.rr_a : Length.Statement .rr_a := ⟨rfl, Nat.le_of_ble_eq_true rfl, Nat.le_of_ble_eq_true rfl⟩
theorem Length.sla_b : Length.Statement .sla_b := ⟨rfl, Nat.le_of_ble_eq_true rfl, Nat.le_of_ble_eq_true rfl⟩
theorem Length.sla_c : Length.Statement .sla_c := ⟨rfl, Nat.le_of_ble_eq_true rfl, Nat.le_of_ble_eq_true rfl⟩
theorem Length.sla_d : Length.Statement .sla_d := ⟨rfl, Nat.le_of_ble_eq_true rfl, Nat.le_of_ble_eq_true rfl⟩
theorem Length.sla_e : Length.Statement .sla_e := ⟨rfl, Nat.le_of_ble_eq_true rfl, Nat.le_of_ble_eq_true rfl⟩
theorem Length.sla_h : Length.Statement .sla_h := ⟨rfl, Nat.le_of_ble_eq_true rfl, Nat.le_of_ble_eq_true rfl⟩
theorem Length.sla_l : Length.Statement .sla_l := ⟨rfl, Nat.le_of_ble_eq_true rfl, Nat.le_of_ble_eq_true rfl⟩
theorem Length.sla_at_hl : Length.Statement .sla_at_hl := ⟨rfl, Nat.le_of_ble_eq_true rfl, Nat.le_of_ble_eq_true rfl⟩
theorem Length.sla_a : Length.Statement .sla_a := ⟨rfl, Nat.le_of_ble_eq_true rfl, Nat.le_of_ble_eq_true rfl⟩
theorem Length.sra_b : Length.Statement .sra_b := ⟨rfl, Nat.le_of_ble_eq_true rfl, Nat.le_of_ble_eq_true rfl⟩
theorem Length.sra_c : Length.Statement .sra_c := ⟨rfl, Nat.le_of_ble_eq_true rfl, Nat.le_of_ble_eq_true rfl⟩
theorem Length.sra_d : Length.Statement .sra_d := ⟨rfl, Nat.le_of_ble_eq_true rfl, Nat.le_of_ble_eq_true rfl⟩
theorem Length.sra_e : Length.Statement .sra_e := ⟨rfl, Nat.le_of_ble_eq_true rfl, Nat.le_of_ble_eq_true rfl⟩
theorem Length.sra_h : Length.Statement .sra_h := ⟨rfl, Nat.le_of_ble_eq_true rfl, Nat.le_of_ble_eq_true rfl⟩
theorem Length.sra_l : Length.Statement .sra_l := ⟨rfl, Nat.le_of_ble_eq_true rfl, Nat.le_of_ble_eq_true rfl⟩
theorem Length.sra_at_hl : Length.Statement .sra_at_hl := ⟨rfl, Nat.le_of_ble_eq_true rfl, Nat.le_of_ble_eq_true rfl⟩
theorem Length.sra_a : Length.Statement .sra_a := ⟨rfl, Nat.le_of_ble_eq_true rfl, Nat.le_of_ble_eq_true rfl⟩
theorem Length.swap_b : Length.Statement .swap_b := ⟨rfl, Nat.le_of_ble_eq_true rfl, Nat.le_of_ble_eq_true rfl⟩
theorem Length.swap_c : Length.Statement .swap_c := ⟨rfl, Nat.le_of_ble_eq_true rfl, Nat.le_of_ble_eq_true rfl⟩
theorem Length.swap_d : Length.Statement .swap_d := ⟨rfl, Nat.le_of_ble_eq_true rfl, Nat.le_of_ble_eq_true rfl⟩
theorem Length.swap_e : Length.Statement .swap_e := ⟨rfl, Nat.le_of_ble_eq_true rfl, Nat.le_of_ble_eq_true rfl⟩
theorem Length.swap_h : Length.Statement .swap_h := ⟨rfl, Nat.le_of_ble_eq_true rfl, Nat.le_of_ble_eq_true rfl⟩
theorem Length.swap_l : Length.Statement .swap_l := ⟨rfl, Nat.le_of_ble_eq_true rfl, Nat.le_of_ble_eq_true rfl⟩
theorem Length.swap_at_hl : Length.Statement .swap_at_hl := ⟨rfl, Nat.le_of_ble_eq_true rfl, Nat.le_of_ble_eq_true rfl⟩
theorem Length.swap_a : Length.Statement .swap_a := ⟨rfl, Nat.le_of_ble_eq_true rfl, Nat.le_of_ble_eq_true rfl⟩
theorem Length.srl_b : Length.Statement .srl_b := ⟨rfl, Nat.le_of_ble_eq_true rfl, Nat.le_of_ble_eq_true rfl⟩
theorem Length.srl_c : Length.Statement .srl_c := ⟨rfl, Nat.le_of_ble_eq_true rfl, Nat.le_of_ble_eq_true rfl⟩
theorem Length.srl_d : Length.Statement .srl_d := ⟨rfl, Nat.le_of_ble_eq_true rfl, Nat.le_of_ble_eq_true rfl⟩
theorem Length.srl_e : Length.Statement .srl_e := ⟨rfl, Nat.le_of_ble_eq_true rfl, Nat.le_of_ble_eq_true rfl⟩
theorem Length.srl_h : Length.Statement .srl_h := ⟨rfl, Nat.le_of_ble_eq_true rfl, Nat.le_of_ble_eq_true rfl⟩
theorem Length.srl_l : Length.Statement .srl_l := ⟨rfl, Nat.le_of_ble_eq_true rfl, Nat.le_of_ble_eq_true rfl⟩
theorem Length.srl_at_hl : Length.Statement .srl_at_hl := ⟨rfl, Nat.le_of_ble_eq_true rfl, Nat.le_of_ble_eq_true rfl⟩
theorem Length.srl_a : Length.Statement .srl_a := ⟨rfl, Nat.le_of_ble_eq_true rfl, Nat.le_of_ble_eq_true rfl⟩
theorem Length.bit_0_b : Length.Statement .bit_0_b := ⟨rfl, Nat.le_of_ble_eq_true rfl, Nat.le_of_ble_eq_true rfl⟩
theorem Length.bit_0_c : Length.Statement .bit_0_c := ⟨rfl, Nat.le_of_ble_eq_true rfl, Nat.le_of_ble_eq_true rfl⟩
theorem Length.bit_0_d : Length.Statement .bit_0_d := ⟨rfl, Nat.le_of_ble_eq_true rfl, Nat.le_of_ble_eq_true rfl⟩
theorem Length.bit_0_e : Length.Statement .bit_0_e := ⟨rfl, Nat.le_of_ble_eq_true rfl, Nat.le_of_ble_eq_true rfl⟩
theorem Length.bit_0_h : Length.Statement .bit_0_h := ⟨rfl, Nat.le_of_ble_eq_true rfl, Nat.le_of_ble_eq_true rfl⟩
theorem Length.bit_0_l : Length.Statement .bit_0_l := ⟨rfl, Nat.le_of_ble_eq_true rfl, Nat.le_of_ble_eq_true rfl⟩
theorem Length.bit_0_at_hl : Length.Statement .bit_0_at_hl := ⟨rfl, Nat.le_of_ble_eq_true rfl, Nat.le_of_ble_eq_true rfl⟩
theorem Length.bit_0_a : Length.Statement .bit_0_a := ⟨rfl, Nat.le_of_ble_eq_true rfl, Nat.le_of_ble_eq_true rfl⟩
theorem Length.bit_1_b : Length.Statement .bit_1_b := ⟨rfl, Nat.le_of_ble_eq_true rfl, Nat.le_of_ble_eq_true rfl⟩
theorem Length.bit_1_c : Length.Statement .bit_1_c := ⟨rfl, Nat.le_of_ble_eq_true rfl, Nat.le_of_ble_eq_true rfl⟩
theorem Length.bit_1_d : Length.Statement .bit_1_d := ⟨rfl, Nat.le_of_ble_eq_true rfl, Nat.le_of_ble_eq_true rfl⟩
theorem Length.bit_1_e : Length.Statement .bit_1_e := ⟨rfl, Nat.le_of_ble_eq_true rfl, Nat.le_of_ble_eq_true rfl⟩
theorem Length.bit_1_h : Length.Statement .bit_1_h := ⟨rfl, Nat.le_of_ble_eq_true rfl, Nat.le_of_ble_eq_true rfl⟩
theorem Length.bit_1_l : Length.Statement .bit_1_l := ⟨rfl, Nat.le_of_ble_eq_true rfl, Nat.le_of_ble_eq_true rfl⟩
theorem Length.bit_1_at_hl : Length.Statement .bit_1_at_hl := ⟨rfl, Nat.le_of_ble_eq_true rfl, Nat.le_of_ble_eq_true rfl⟩
theorem Length.bit_1_a : Length.Statement .bit_1_a := ⟨rfl, Nat.le_of_ble_eq_true rfl, Nat.le_of_ble_eq_true rfl⟩
theorem Length.bit_2_b : Length.Statement .bit_2_b := ⟨rfl, Nat.le_of_ble_eq_true rfl, Nat.le_of_ble_eq_true rfl⟩
theorem Length.bit_2_c : Length.Statement .bit_2_c := ⟨rfl, Nat.le_of_ble_eq_true rfl, Nat.le_of_ble_eq_true rfl⟩
theorem Length.bit_2_d : Length.Statement .bit_2_d := ⟨rfl, Nat.le_of_ble_eq_true rfl, Nat.le_of_ble_eq_true rfl⟩
theorem Length.bit_2_e : Length.Statement .bit_2_e := ⟨rfl, Nat.le_of_ble_eq_true rfl, Nat.le_of_ble_eq_true rfl⟩
theorem Length.bit_2_h : Length.Statement .bit_2_h := ⟨rfl, Nat.le_of_ble_eq_true rfl, Nat.le_of_ble_eq_true rfl⟩
theorem Length.bit_2_l : Length.Statement .bit_2_l := ⟨rfl, Nat.le_of_ble_eq_true rfl, Nat.le_of_ble_eq_true rfl⟩
theorem Length.bit_2_at_hl : Length.Statement .bit_2_at_hl := ⟨rfl, Nat.le_of_ble_eq_true rfl, Nat.le_of_ble_eq_true rfl⟩
theorem Length.bit_2_a : Length.Statement .bit_2_a := ⟨rfl, Nat.le_of_ble_eq_true rfl, Nat.le_of_ble_eq_true rfl⟩
theorem Length.bit_3_b : Length.Statement .bit_3_b := ⟨rfl, Nat.le_of_ble_eq_true rfl, Nat.le_of_ble_eq_true rfl⟩
theorem Length.bit_3_c : Length.Statement .bit_3_c := ⟨rfl, Nat.le_of_ble_eq_true rfl, Nat.le_of_ble_eq_true rfl⟩
theorem Length.bit_3_d : Length.Statement .bit_3_d := ⟨rfl, Nat.le_of_ble_eq_true rfl, Nat.le_of_ble_eq_true rfl⟩
theorem Length.bit_3_e : Length.Statement .bit_3_e := ⟨rfl, Nat.le_of_ble_eq_true rfl, Nat.le_of_ble_eq_true rfl⟩
theorem Length.bit_3_h : Length.Statement .bit_3_h := ⟨rfl, Nat.le_of_ble_eq_true rfl, Nat.le_of_ble_eq_true rfl⟩
theorem Length.bit_3_l : Length.Statement .bit_3_l := ⟨rfl, Nat.le_of_ble_eq_true rfl, Nat.le_of_ble_eq_true rfl⟩
theorem Length.bit_3_at_hl : Length.Statement .bit_3_at_hl := ⟨rfl, Nat.le_of_ble_eq_true rfl, Nat.le_of_ble_eq_true rfl⟩
theorem Length.bit_3_a : Length.Statement .bit_3_a := ⟨rfl, Nat.le_of_ble_eq_true rfl, Nat.le_of_ble_eq_true rfl⟩
theorem Length.bit_4_b : Length.Statement .bit_4_b := ⟨rfl, Nat.le_of_ble_eq_true rfl, Nat.le_of_ble_eq_true rfl⟩
theorem Length.bit_4_c : Length.Statement .bit_4_c := ⟨rfl, Nat.le_of_ble_eq_true rfl, Nat.le_of_ble_eq_true rfl⟩
theorem Length.bit_4_d : Length.Statement .bit_4_d := ⟨rfl, Nat.le_of_ble_eq_true rfl, Nat.le_of_ble_eq_true rfl⟩
theorem Length.bit_4_e : Length.Statement .bit_4_e := ⟨rfl, Nat.le_of_ble_eq_true rfl, Nat.le_of_ble_eq_true rfl⟩
theorem Length.bit_4_h : Length.Statement .bit_4_h := ⟨rfl, Nat.le_of_ble_eq_true rfl, Nat.le_of_ble_eq_true rfl⟩
theorem Length.bit_4_l : Length.Statement .bit_4_l := ⟨rfl, Nat.le_of_ble_eq_true rfl, Nat.le_of_ble_eq_true rfl⟩
theorem Length.bit_4_at_hl : Length.Statement .bit_4_at_hl := ⟨rfl, Nat.le_of_ble_eq_true rfl, Nat.le_of_ble_eq_true rfl⟩
theorem Length.bit_4_a : Length.Statement .bit_4_a := ⟨rfl, Nat.le_of_ble_eq_true rfl, Nat.le_of_ble_eq_true rfl⟩
theorem Length.bit_5_b : Length.Statement .bit_5_b := ⟨rfl, Nat.le_of_ble_eq_true rfl, Nat.le_of_ble_eq_true rfl⟩
theorem Length.bit_5_c : Length.Statement .bit_5_c := ⟨rfl, Nat.le_of_ble_eq_true rfl, Nat.le_of_ble_eq_true rfl⟩
theorem Length.bit_5_d : Length.Statement .bit_5_d := ⟨rfl, Nat.le_of_ble_eq_true rfl, Nat.le_of_ble_eq_true rfl⟩
theorem Length.bit_5_e : Length.Statement .bit_5_e := ⟨rfl, Nat.le_of_ble_eq_true rfl, Nat.le_of_ble_eq_true rfl⟩
theorem Length.bit_5_h : Length.Statement .bit_5_h := ⟨rfl, Nat.le_of_ble_eq_true rfl, Nat.le_of_ble_eq_true rfl⟩
theorem Length.bit_5_l : Length.Statement .bit_5_l := ⟨rfl, Nat.le_of_ble_eq_true rfl, Nat.le_of_ble_eq_true rfl⟩
theorem Length.bit_5_at_hl : Length.Statement .bit_5_at_hl := ⟨rfl, Nat.le_of_ble_eq_true rfl, Nat.le_of_ble_eq_true rfl⟩
theorem Length.bit_5_a : Length.Statement .bit_5_a := ⟨rfl, Nat.le_of_ble_eq_true rfl, Nat.le_of_ble_eq_true rfl⟩
theorem Length.bit_6_b : Length.Statement .bit_6_b := ⟨rfl, Nat.le_of_ble_eq_true rfl, Nat.le_of_ble_eq_true rfl⟩
theorem Length.bit_6_c : Length.Statement .bit_6_c := ⟨rfl, Nat.le_of_ble_eq_true rfl, Nat.le_of_ble_eq_true rfl⟩
theorem Length.bit_6_d : Length.Statement .bit_6_d := ⟨rfl, Nat.le_of_ble_eq_true rfl, Nat.le_of_ble_eq_true rfl⟩
theorem Length.bit_6_e : Length.Statement .bit_6_e := ⟨rfl, Nat.le_of_ble_eq_true rfl, Nat.le_of_ble_eq_true rfl⟩
theorem Length.bit_6_h : Length.Statement .bit_6_h := ⟨rfl, Nat.le_of_ble_eq_true rfl, Nat.le_of_ble_eq_true rfl⟩
theorem Length.bit_6_l : Length.Statement .bit_6_l := ⟨rfl, Nat.le_of_ble_eq_true rfl, Nat.le_of_ble_eq_true rfl⟩
theorem Length.bit_6_at_hl : Length.Statement .bit_6_at_hl := ⟨rfl, Nat.le_of_ble_eq_true rfl, Nat.le_of_ble_eq_true rfl⟩
theorem Length.bit_6_a : Length.Statement .bit_6_a := ⟨rfl, Nat.le_of_ble_eq_true rfl, Nat.le_of_ble_eq_true rfl⟩
theorem Length.bit_7_b : Length.Statement .bit_7_b := ⟨rfl, Nat.le_of_ble_eq_true rfl, Nat.le_of_ble_eq_true rfl⟩
theorem Length.bit_7_c : Length.Statement .bit_7_c := ⟨rfl, Nat.le_of_ble_eq_true rfl, Nat.le_of_ble_eq_true rfl⟩
theorem Length.bit_7_d : Length.Statement .bit_7_d := ⟨rfl, Nat.le_of_ble_eq_true rfl, Nat.le_of_ble_eq_true rfl⟩
theorem Length.bit_7_e : Length.Statement .bit_7_e := ⟨rfl, Nat.le_of_ble_eq_true rfl, Nat.le_of_ble_eq_true rfl⟩
theorem Length.bit_7_h : Length.Statement .bit_7_h := ⟨rfl, Nat.le_of_ble_eq_true rfl, Nat.le_of_ble_eq_true rfl⟩
theorem Length.bit_7_l : Length.Statement .bit_7_l := ⟨rfl, Nat.le_of_ble_eq_true rfl, Nat.le_of_ble_eq_true rfl⟩
theorem Length.bit_7_at_hl : Length.Statement .bit_7_at_hl := ⟨rfl, Nat.le_of_ble_eq_true rfl, Nat.le_of_ble_eq_true rfl⟩
theorem Length.bit_7_a : Length.Statement .bit_7_a := ⟨rfl, Nat.le_of_ble_eq_true rfl, Nat.le_of_ble_eq_true rfl⟩
theorem Length.res_0_b : Length.Statement .res_0_b := ⟨rfl, Nat.le_of_ble_eq_true rfl, Nat.le_of_ble_eq_true rfl⟩
theorem Length.res_0_c : Length.Statement .res_0_c := ⟨rfl, Nat.le_of_ble_eq_true rfl, Nat.le_of_ble_eq_true rfl⟩
theorem Length.res_0_d : Length.Statement .res_0_d := ⟨rfl, Nat.le_of_ble_eq_true rfl, Nat.le_of_ble_eq_true rfl⟩
theorem Length.res_0_e : Length.Statement .res_0_e := ⟨rfl, Nat.le_of_ble_eq_true rfl, Nat.le_of_ble_eq_true rfl⟩
theorem Length.res_0_h : Length.Statement .res_0_h := ⟨rfl, Nat.le_of_ble_eq_true rfl, Nat.le_of_ble_eq_true rfl⟩
theorem Length.res_0_l : Length.Statement .res_0_l := ⟨rfl, Nat.le_of_ble_eq_true rfl, Nat.le_of_ble_eq_true rfl⟩
theorem Length.res_0_at_hl : Length.Statement .res_0_at_hl := ⟨rfl, Nat.le_of_ble_eq_true rfl, Nat.le_of_ble_eq_true rfl⟩
theorem Length.res_0_a : Length.Statement .res_0_a := ⟨rfl, Nat.le_of_ble_eq_true rfl, Nat.le_of_ble_eq_true rfl⟩
theorem Length.res_1_b : Length.Statement .res_1_b := ⟨rfl, Nat.le_of_ble_eq_true rfl, Nat.le_of_ble_eq_true rfl⟩
theorem Length.res_1_c : Length.Statement .res_1_c := ⟨rfl, Nat.le_of_ble_eq_true rfl, Nat.le_of_ble_eq_true rfl⟩
theorem Length.res_1_d : Length.Statement .res_1_d := ⟨rfl, Nat.le_of_ble_eq_true rfl, Nat.le_of_ble_eq_true rfl⟩
theorem Length.res_1_e : Length.Statement .res_1_e := ⟨rfl, Nat.le_of_ble_eq_true rfl, Nat.le_of_ble_eq_true rfl⟩
theorem Length.res_1_h : Length.Statement .res_1_h := ⟨rfl, Nat.le_of_ble_eq_true rfl, Nat.le_of_ble_eq_true rfl⟩
theorem Length.res_1_l : Length.Statement .res_1_l := ⟨rfl, Nat.le_of_ble_eq_true rfl, Nat.le_of_ble_eq_true rfl⟩
theorem Length.res_1_at_hl : Length.Statement .res_1_at_hl := ⟨rfl, Nat.le_of_ble_eq_true rfl, Nat.le_of_ble_eq_true rfl⟩
theorem Length.res_1_a : Length.Statement .res_1_a := ⟨rfl, Nat.le_of_ble_eq_true rfl, Nat.le_of_ble_eq_true rfl⟩
theorem Length.res_2_b : Length.Statement .res_2_b := ⟨rfl, Nat.le_of_ble_eq_true rfl, Nat.le_of_ble_eq_true rfl⟩
theorem Length.res_2_c : Length.Statement .res_2_c := ⟨rfl, Nat.le_of_ble_eq_true rfl, Nat.le_of_ble_eq_true rfl⟩
theorem Length.res_2_d : Length.Statement .res_2_d := ⟨rfl, Nat.le_of_ble_eq_true rfl, Nat.le_of_ble_eq_true rfl⟩
theorem Length.res_2_e : Length.Statement .res_2_e := ⟨rfl, Nat.le_of_ble_eq_true rfl, Nat.le_of_ble_eq_true rfl⟩
theorem Length.res_2_h : Length.Statement .res_2_h := ⟨rfl, Nat.le_of_ble_eq_true rfl, Nat.le_of_ble_eq_true rfl⟩
theorem Length.res_2_l : Length.Statement .res_2_l := ⟨rfl, Nat.le_of_ble_eq_true rfl, Nat.le_of_ble_eq_true rfl⟩
theorem Length.res_2_at_hl : Length.Statement .res_2_at_hl := ⟨rfl, Nat.le_of_ble_eq_true rfl, Nat.le_of_ble_eq_true rfl⟩
theorem Length.res_2_a : Length.Statement .res_2_a := ⟨rfl, Nat.le_of_ble_eq_true rfl, Nat.le_of_ble_eq_true rfl⟩
theorem Length.res_3_b : Length.Statement .res_3_b := ⟨rfl, Nat.le_of_ble_eq_true rfl, Nat.le_of_ble_eq_true rfl⟩
theorem Length.res_3_c : Length.Statement .res_3_c := ⟨rfl, Nat.le_of_ble_eq_true rfl, Nat.le_of_ble_eq_true rfl⟩
theorem Length.res_3_d : Length.Statement .res_3_d := ⟨rfl, Nat.le_of_ble_eq_true rfl, Nat.le_of_ble_eq_true rfl⟩
theorem Length.res_3_e : Length.Statement .res_3_e := ⟨rfl, Nat.le_of_ble_eq_true rfl, Nat.le_of_ble_eq_true rfl⟩
theorem Length.res_3_h : Length.Statement .res_3_h := ⟨rfl, Nat.le_of_ble_eq_true rfl, Nat.le_of_ble_eq_true rfl⟩
theorem Length.res_3_l : Length.Statement .res_3_l := ⟨rfl, Nat.le_of_ble_eq_true rfl, Nat.le_of_ble_eq_true rfl⟩
theorem Length.res_3_at_hl : Length.Statement .res_3_at_hl := ⟨rfl, Nat.le_of_ble_eq_true rfl, Nat.le_of_ble_eq_true rfl⟩
theorem Length.res_3_a : Length.Statement .res_3_a := ⟨rfl, Nat.le_of_ble_eq_true rfl, Nat.le_of_ble_eq_true rfl⟩
theorem Length.res_4_b : Length.Statement .res_4_b := ⟨rfl, Nat.le_of_ble_eq_true rfl, Nat.le_of_ble_eq_true rfl⟩
theorem Length.res_4_c : Length.Statement .res_4_c := ⟨rfl, Nat.le_of_ble_eq_true rfl, Nat.le_of_ble_eq_true rfl⟩
theorem Length.res_4_d : Length.Statement .res_4_d := ⟨rfl, Nat.le_of_ble_eq_true rfl, Nat.le_of_ble_eq_true rfl⟩
theorem Length.res_4_e : Length.Statement .res_4_e := ⟨rfl, Nat.le_of_ble_eq_true rfl, Nat.le_of_ble_eq_true rfl⟩
theorem Length.res_4_h : Length.Statement .res_4_h := ⟨rfl, Nat.le_of_ble_eq_true rfl, Nat.le_of_ble_eq_true rfl⟩
theorem Length.res_4_l : Length.Statement .res_4_l := ⟨rfl, Nat.le_of_ble_eq_true rfl, Nat.le_of_ble_eq_true rfl⟩
theorem Length.res_4_at_hl : Length.Statement .res_4_at_hl := ⟨rfl, Nat.le_of_ble_eq_true rfl, Nat.le_of_ble_eq_true rfl⟩
theorem Length.res_4_a : Length.Statement .res_4_a := ⟨rfl, Nat.le_of_ble_eq_true rfl, Nat.le_of_ble_eq_true rfl⟩
theorem Length.res_5_b : Length.Statement .res_5_b := ⟨rfl, Nat.le_of_ble_eq_true rfl, Nat.le_of_ble_eq_true rfl⟩
theorem Length.res_5_c : Length.Statement .res_5_c := ⟨rfl, Nat.le_of_ble_eq_true rfl, Nat.le_of_ble_eq_true rfl⟩
theorem Length.res_5_d : Length.Statement .res_5_d := ⟨rfl, Nat.le_of_ble_eq_true rfl, Nat.le_of_ble_eq_true rfl⟩
theorem Length.res_5_e : Length.Statement .res_5_e := ⟨rfl, Nat.le_of_ble_eq_true rfl, Nat.le_of_ble_eq_true rfl⟩
theorem Length.res_5_h : Length.Statement .res_5_h := ⟨rfl, Nat.le_of_ble_eq_true rfl, Nat.le_of_ble_eq_true rfl⟩
theorem Length.res_5_l : Length.Statement .res_5_l := ⟨rfl, Nat.le_of_ble_eq_true rfl, Nat.le_of_ble_eq_true rfl⟩
theorem Length.res_5_at_hl : Length.Statement .res_5_at_hl := ⟨rfl, Nat.le_of_ble_eq_true rfl, Nat.le_of_ble_eq_true rfl⟩
theorem Length.res_5_a : Length.Statement .res_5_a := ⟨rfl, Nat.le_of_ble_eq_true rfl, Nat.le_of_ble_eq_true rfl⟩
theorem Length.res_6_b : Length.Statement .res_6_b := ⟨rfl, Nat.le_of_ble_eq_true rfl, Nat.le_of_ble_eq_true rfl⟩
theorem Length.res_6_c : Length.Statement .res_6_c := ⟨rfl, Nat.le_of_ble_eq_true rfl, Nat.le_of_ble_eq_true rfl⟩
theorem Length.res_6_d : Length.Statement .res_6_d := ⟨rfl, Nat.le_of_ble_eq_true rfl, Nat.le_of_ble_eq_true rfl⟩
theorem Length.res_6_e : Length.Statement .res_6_e := ⟨rfl, Nat.le_of_ble_eq_true rfl, Nat.le_of_ble_eq_true rfl⟩
theorem Length.res_6_h : Length.Statement .res_6_h := ⟨rfl, Nat.le_of_ble_eq_true rfl, Nat.le_of_ble_eq_true rfl⟩
theorem Length.res_6_l : Length.Statement .res_6_l := ⟨rfl, Nat.le_of_ble_eq_true rfl, Nat.le_of_ble_eq_true rfl⟩
theorem Length.res_6_at_hl : Length.Statement .res_6_at_hl := ⟨rfl, Nat.le_of_ble_eq_true rfl, Nat.le_of_ble_eq_true rfl⟩
theorem Length.res_6_a : Length.Statement .res_6_a := ⟨rfl, Nat.le_of_ble_eq_true rfl, Nat.le_of_ble_eq_true rfl⟩
theorem Length.res_7_b : Length.Statement .res_7_b := ⟨rfl, Nat.le_of_ble_eq_true rfl, Nat.le_of_ble_eq_true rfl⟩
theorem Length.res_7_c : Length.Statement .res_7_c := ⟨rfl, Nat.le_of_ble_eq_true rfl, Nat.le_of_ble_eq_true rfl⟩
theorem Length.res_7_d : Length.Statement .res_7_d := ⟨rfl, Nat.le_of_ble_eq_true rfl, Nat.le_of_ble_eq_true rfl⟩
theorem Length.res_7_e : Length.Statement .res_7_e := ⟨rfl, Nat.le_of_ble_eq_true rfl, Nat.le_of_ble_eq_true rfl⟩
theorem Length.res_7_h : Length.Statement .res_7_h := ⟨rfl, Nat.le_of_ble_eq_true rfl, Nat.le_of_ble_eq_true rfl⟩
theorem Length.res_7_l : Length.Statement .res_7_l := ⟨rfl, Nat.le_of_ble_eq_true rfl, Nat.le_of_ble_eq_true rfl⟩
theorem Length.res_7_at_hl : Length.Statement .res_7_at_hl := ⟨rfl, Nat.le_of_ble_eq_true rfl, Nat.le_of_ble_eq_true rfl⟩
theorem Length.res_7_a : Length.Statement .res_7_a := ⟨rfl, Nat.le_of_ble_eq_true rfl, Nat.le_of_ble_eq_true rfl⟩
theorem Length.set_0_b : Length.Statement .set_0_b := ⟨rfl, Nat.le_of_ble_eq_true rfl, Nat.le_of_ble_eq_true rfl⟩
theorem Length.set_0_c : Length.Statement .set_0_c := ⟨rfl, Nat.le_of_ble_eq_true rfl, Nat.le_of_ble_eq_true rfl⟩
theorem Length.set_0_d : Length.Statement .set_0_d := ⟨rfl, Nat.le_of_ble_eq_true rfl, Nat.le_of_ble_eq_true rfl⟩
theorem Length.set_0_e : Length.Statement .set_0_e := ⟨rfl, Nat.le_of_ble_eq_true rfl, Nat.le_of_ble_eq_true rfl⟩
theorem Length.set_0_h : Length.Statement .set_0_h := ⟨rfl, Nat.le_of_ble_eq_true rfl, Nat.le_of_ble_eq_true rfl⟩
theorem Length.set_0_l : Length.Statement .set_0_l := ⟨rfl, Nat.le_of_ble_eq_true rfl, Nat.le_of_ble_eq_true rfl⟩
theorem Length.set_0_at_hl : Length.Statement .set_0_at_hl := ⟨rfl, Nat.le_of_ble_eq_true rfl, Nat.le_of_ble_eq_true rfl⟩
theorem Length.set_0_a : Length.Statement .set_0_a := ⟨rfl, Nat.le_of_ble_eq_true rfl, Nat.le_of_ble_eq_true rfl⟩
theorem Length.set_1_b : Length.Statement .set_1_b := ⟨rfl, Nat.le_of_ble_eq_true rfl, Nat.le_of_ble_eq_true rfl⟩
theorem Length.set_1_c : Length.Statement .set_1_c := ⟨rfl, Nat.le_of_ble_eq_true rfl, Nat.le_of_ble_eq_true rfl⟩
theorem Length.set_1_d : Length.Statement .set_1_d := ⟨rfl, Nat.le_of_ble_eq_true rfl, Nat.le_of_ble_eq_true rfl⟩
theorem Length.set_1_e : Length.Statement .set_1_e := ⟨rfl, Nat.le_of_ble_eq_true rfl, Nat.le_of_ble_eq_true rfl⟩
theorem Length.set_1_h : Length.Statement .set_1_h := ⟨rfl, Nat.le_of_ble_eq_true rfl, Nat.le_of_ble_eq_true rfl⟩
theorem Length.set_1_l : Length.Statement .set_1_l := ⟨rfl, Nat.le_of_ble_eq_true rfl, Nat.le_of_ble_eq_true rfl⟩
theorem Length.set_1_at_hl : Length.Statement .set_1_at_hl := ⟨rfl, Nat.le_of_ble_eq_true rfl, Nat.le_of_ble_eq_true rfl⟩
theorem Length.set_1_a : Length.Statement .set_1_a := ⟨rfl, Nat.le_of_ble_eq_true rfl, Nat.le_of_ble_eq_true rfl⟩
theorem Length.set_2_b : Length.Statement .set_2_b := ⟨rfl, Nat.le_of_ble_eq_true rfl, Nat.le_of_ble_eq_true rfl⟩
theorem Length.set_2_c : Length.Statement .set_2_c := ⟨rfl, Nat.le_of_ble_eq_true rfl, Nat.le_of_ble_eq_true rfl⟩
theorem Length.set_2_d : Length.Statement .set_2_d := ⟨rfl, Nat.le_of_ble_eq_true rfl, Nat.le_of_ble_eq_true rfl⟩
theorem Length.set_2_e : Length.Statement .set_2_e := ⟨rfl, Nat.le_of_ble_eq_true rfl, Nat.le_of_ble_eq_true rfl⟩
theorem Length.set_2_h : Length.Statement .set_2_h := ⟨rfl, Nat.le_of_ble_eq_true rfl, Nat.le_of_ble_eq_true rfl⟩
theorem Length.set_2_l : Length.Statement .set_2_l := ⟨rfl, Nat.le_of_ble_eq_true rfl, Nat.le_of_ble_eq_true rfl⟩
theorem Length.set_2_at_hl : Length.Statement .set_2_at_hl := ⟨rfl, Nat.le_of_ble_eq_true rfl, Nat.le_of_ble_eq_true rfl⟩
theorem Length.set_2_a : Length.Statement .set_2_a := ⟨rfl, Nat.le_of_ble_eq_true rfl, Nat.le_of_ble_eq_true rfl⟩
theorem Length.set_3_b : Length.Statement .set_3_b := ⟨rfl, Nat.le_of_ble_eq_true rfl, Nat.le_of_ble_eq_true rfl⟩
theorem Length.set_3_c : Length.Statement .set_3_c := ⟨rfl, Nat.le_of_ble_eq_true rfl, Nat.le_of_ble_eq_true rfl⟩
theorem Length.set_3_d : Length.Statement .set_3_d := ⟨rfl, Nat.le_of_ble_eq_true rfl, Nat.le_of_ble_eq_true rfl⟩
theorem Length.set_3_e : Length.Statement .set_3_e := ⟨rfl, Nat.le_of_ble_eq_true rfl, Nat.le_of_ble_eq_true rfl⟩
theorem Length.set_3_h : Length.Statement .set_3_h := ⟨rfl, Nat.le_of_ble_eq_true rfl, Nat.le_of_ble_eq_true rfl⟩
theorem Length.set_3_l : Length.Statement .set_3_l := ⟨rfl, Nat.le_of_ble_eq_true rfl, Nat.le_of_ble_eq_true rfl⟩
theorem Length.set_3_at_hl : Length.Statement .set_3_at_hl := ⟨rfl, Nat.le_of_ble_eq_true rfl, Nat.le_of_ble_eq_true rfl⟩
theorem Length.set_3_a : Length.Statement .set_3_a := ⟨rfl, Nat.le_of_ble_eq_true rfl, Nat.le_of_ble_eq_true rfl⟩
theorem Length.set_4_b : Length.Statement .set_4_b := ⟨rfl, Nat.le_of_ble_eq_true rfl, Nat.le_of_ble_eq_true rfl⟩
theorem Length.set_4_c : Length.Statement .set_4_c := ⟨rfl, Nat.le_of_ble_eq_true rfl, Nat.le_of_ble_eq_true rfl⟩
theorem Length.set_4_d : Length.Statement .set_4_d := ⟨rfl, Nat.le_of_ble_eq_true rfl, Nat.le_of_ble_eq_true rfl⟩
theorem Length.set_4_e : Length.Statement .set_4_e := ⟨rfl, Nat.le_of_ble_eq_true rfl, Nat.le_of_ble_eq_true rfl⟩
theorem Length.set_4_h : Length.Statement .set_4_h := ⟨rfl, Nat.le_of_ble_eq_true rfl, Nat.le_of_ble_eq_true rfl⟩
theorem Length.set_4_l : Length.Statement .set_4_l := ⟨rfl, Nat.le_of_ble_eq_true rfl, Nat.le_of_ble_eq_true rfl⟩
theorem Length.set_4_at_hl : Length.Statement .set_4_at_hl := ⟨rfl, Nat.le_of_ble_eq_true rfl, Nat.le_of_ble_eq_true rfl⟩
theorem Length.set_4_a : Length.Statement .set_4_a := ⟨rfl, Nat.le_of_ble_eq_true rfl, Nat.le_of_ble_eq_true rfl⟩
theorem Length.set_5_b : Length.Statement .set_5_b := ⟨rfl, Nat.le_of_ble_eq_true rfl, Nat.le_of_ble_eq_true rfl⟩
theorem Length.set_5_c : Length.Statement .set_5_c := ⟨rfl, Nat.le_of_ble_eq_true rfl, Nat.le_of_ble_eq_true rfl⟩
theorem Length.set_5_d : Length.Statement .set_5_d := ⟨rfl, Nat.le_of_ble_eq_true rfl, Nat.le_of_ble_eq_true rfl⟩
theorem Length.set_5_e : Length.Statement .set_5_e := ⟨rfl, Nat.le_of_ble_eq_true rfl, Nat.le_of_ble_eq_true rfl⟩
theorem Length.set_5_h : Length.Statement .set_5_h := ⟨rfl, Nat.le_of_ble_eq_true rfl, Nat.le_of_ble_eq_true rfl⟩
theorem Length.set_5_l : Length.Statement .set_5_l := ⟨rfl, Nat.le_of_ble_eq_true rfl, Nat.le_of_ble_eq_true rfl⟩
theorem Length.set_5_at_hl : Length.Statement .set_5_at_hl := ⟨rfl, Nat.le_of_ble_eq_true rfl, Nat.le_of_ble_eq_true rfl⟩
theorem Length.set_5_a : Length.Statement .set_5_a := ⟨rfl, Nat.le_of_ble_eq_true rfl, Nat.le_of_ble_eq_true rfl⟩
theorem Length.set_6_b : Length.Statement .set_6_b := ⟨rfl, Nat.le_of_ble_eq_true rfl, Nat.le_of_ble_eq_true rfl⟩
theorem Length.set_6_c : Length.Statement .set_6_c := ⟨rfl, Nat.le_of_ble_eq_true rfl, Nat.le_of_ble_eq_true rfl⟩
theorem Length.set_6_d : Length.Statement .set_6_d := ⟨rfl, Nat.le_of_ble_eq_true rfl, Nat.le_of_ble_eq_true rfl⟩
theorem Length.set_6_e : Length.Statement .set_6_e := ⟨rfl, Nat.le_of_ble_eq_true rfl, Nat.le_of_ble_eq_true rfl⟩
theorem Length.set_6_h : Length.Statement .set_6_h := ⟨rfl, Nat.le_of_ble_eq_true rfl, Nat.le_of_ble_eq_true rfl⟩
theorem Length.set_6_l : Length.Statement .set_6_l := ⟨rfl, Nat.le_of_ble_eq_true rfl, Nat.le_of_ble_eq_true rfl⟩
theorem Length.set_6_at_hl : Length.Statement .set_6_at_hl := ⟨rfl, Nat.le_of_ble_eq_true rfl, Nat.le_of_ble_eq_true rfl⟩
theorem Length.set_6_a : Length.Statement .set_6_a := ⟨rfl, Nat.le_of_ble_eq_true rfl, Nat.le_of_ble_eq_true rfl⟩
theorem Length.set_7_b : Length.Statement .set_7_b := ⟨rfl, Nat.le_of_ble_eq_true rfl, Nat.le_of_ble_eq_true rfl⟩
theorem Length.set_7_c : Length.Statement .set_7_c := ⟨rfl, Nat.le_of_ble_eq_true rfl, Nat.le_of_ble_eq_true rfl⟩
theorem Length.set_7_d : Length.Statement .set_7_d := ⟨rfl, Nat.le_of_ble_eq_true rfl, Nat.le_of_ble_eq_true rfl⟩
theorem Length.set_7_e : Length.Statement .set_7_e := ⟨rfl, Nat.le_of_ble_eq_true rfl, Nat.le_of_ble_eq_true rfl⟩
theorem Length.set_7_h : Length.Statement .set_7_h := ⟨rfl, Nat.le_of_ble_eq_true rfl, Nat.le_of_ble_eq_true rfl⟩
theorem Length.set_7_l : Length.Statement .set_7_l := ⟨rfl, Nat.le_of_ble_eq_true rfl, Nat.le_of_ble_eq_true rfl⟩
theorem Length.set_7_at_hl : Length.Statement .set_7_at_hl := ⟨rfl, Nat.le_of_ble_eq_true rfl, Nat.le_of_ble_eq_true rfl⟩
theorem Length.set_7_a : Length.Statement .set_7_a := ⟨rfl, Nat.le_of_ble_eq_true rfl, Nat.le_of_ble_eq_true rfl⟩

end Sys2Proof.Laws
end

