-- ==== Sys2Proof/Laws/Steps.lean ====
section
/-! SUPPORT. What the driver's choice, the EI commit and a CPU step that does not dispatch leave alone. -/

namespace Sys2Proof.Machine

/-- Using up a choice changes only the driver's queue and its counter. -/
theorem State.usedChoice_eq (s : State) : ∃ q n, s.usedChoice = { s with sched := q, turn := n } := by
  unfold State.usedChoice
  split
  · exact ⟨_, _, rfl⟩
  · exact ⟨s.sched, _, rfl⟩

/-- The EI commit changes only IME and EIP. -/
theorem State.commitEi_eq (s : State) : s.commitEi = { s with ime := s.ime || s.eip, eip := false } := by
  unfold State.commitEi
  cases h : s.eip <;> simp
  rw [← h]

theorem State.read_usedChoice (s : State) (a : Word) : s.usedChoice.read a = s.read a := by
  obtain ⟨q, n, h⟩ := s.usedChoice_eq
  rw [h]
  rfl

theorem State.read_commitEi (s : State) (a : Word) : s.commitEi.read a = s.read a := by
  rw [s.commitEi_eq]
  rfl

/-- The state in which a CPU step that does not dispatch looks at HALTED and fetches. -/
theorem State.committed_eq (s : State) : ∃ q n, s.usedChoice.commitEi =
    { s with sched := q, turn := n, ime := s.ime || s.eip, eip := false } := by
  obtain ⟨q, n, h⟩ := s.usedChoice_eq
  refine ⟨q, n, ?_⟩
  rw [State.commitEi_eq, h]

theorem State.fetched_committed (s : State) : s.usedChoice.commitEi.fetched = s.fetched := by
  obtain ⟨q, n, h⟩ := s.committed_eq
  rw [h]
  rfl

theorem State.asleep_committed (s : State) : s.usedChoice.commitEi.asleep = s.asleep := by
  obtain ⟨q, n, h⟩ := s.committed_eq
  rw [h]
  rfl

/-- What is fetched is what the bytes at PC decode to. -/
theorem State.fetched_of_decode {s : State} {i : Instr} {rest : List Byte}
    (h : decode s.bytesAtPc = .ok (i, rest)) : s.fetched = i := decode_three h

/-- A CPU step with nothing to dispatch. -/
theorem step_noDispatch (s : State) (hf : s.fault = none) (ha : s.nextAgent = .cpu) (hn : s.noDispatch) :
    step s = s.usedChoice.commitEi.wakeExecute := by
  have hd : s.usedChoice.dispatchable = none := by
    rw [State.dispatchable_eq_none_iff]
    obtain ⟨q, n, h⟩ := s.usedChoice_eq
    rw [h]
    exact hn
  unfold step State.cpuStep
  rw [hf]
  simp only [ha, hd]

theorem step_awake (s : State) (hf : s.fault = none) (ha : s.nextAgent = .cpu) (hn : s.noDispatch)
    (hz : s.asleep = false) : step s = s.usedChoice.commitEi.fetchExecute := by
  rw [step_noDispatch s hf ha hn]
  unfold State.wakeExecute
  rw [s.asleep_committed, hz]
  rfl

/-- A PPU step. -/
theorem step_ppu (s : State) (hf : s.fault = none) (ha : s.nextAgent = .ppu) : step s = .next s.usedChoice.ppuStep := by
  unfold step
  rw [hf]
  simp only [ha]

/-- While FAULT is set no step is taken. -/
theorem step_fault (s : State) (info : FatalInfo) (h : s.fault = some info) :
    step s = .fault (.unimplementedOpcode info) := by
  unfold step
  rw [h]

/-- IF without the bit of a source. -/
def State.withdrawn (s : State) (k : IntSource) : State :=
  s.setDirect 0xFF0F (s.direct 0xFF0F &&& ~~~(1#8 <<< k.bit))

/-- What a dispatch leaves: the memory, then each other field. -/
theorem State.dispatch_sameMemory (s : State) (k : IntSource) :
    sameMemory ((s.withdrawn k).writes (pushStores s s.pc)) (s.dispatch k) :=
  (s.withdrawn k).push16_sameMemory s.pc

theorem State.dispatch_fields (s : State) (k : IntSource) :
    (s.dispatch k).pc = k.vector ∧ (s.dispatch k).sp = s.sp - 2 ∧ (s.dispatch k).ime = false ∧
    (s.dispatch k).halted = false ∧ (s.dispatch k).eip = s.eip ∧ (s.dispatch k).fault = s.fault ∧
    (s.dispatch k).f = s.f ∧ (∀ r, (s.dispatch k).reg r = s.reg r) ∧ sameOthers s (s.dispatch k) := by
  refine ⟨rfl, ?_, rfl, rfl, by simp [State.dispatch], by simp [State.dispatch], by simp [State.dispatch], ?_,
    by simp [sameOthers, State.dispatch]⟩
  · simp [State.dispatch]
  · intro r
    cases r <;> simp [State.dispatch, State.reg]

/-- The cases of a PPU step (R521). -/
theorem State.ppuTransition_cases (s : State) :
    (s.mode = .oamSearch ∧ s.ppuTransition = (s.enterMode .pixelTransfer, 172)) ∨
    (s.mode = .pixelTransfer ∧ s.ppuTransition = ((s.enterLine (s.line + 1)).enterMode .hBlank, 204)) ∨
    (s.mode = .hBlank ∧ s.line < 144 ∧ s.ppuTransition = (s.enterMode .oamSearch, 80)) ∨
    (s.mode = .hBlank ∧ 144 ≤ s.line ∧ s.ppuTransition = (s.requestVBlank.enterMode .vBlank, 456)) ∨
    (s.mode = .vBlank ∧ s.line < 153 ∧ s.ppuTransition = ((s.enterLine (s.line + 1)).enterMode .vBlank, 456)) ∨
    (s.mode = .vBlank ∧ 153 ≤ s.line ∧ s.ppuTransition = ((s.enterLine 0).withdrawVBlank.enterMode .oamSearch, 80)) := by
  unfold State.ppuTransition
  cases hm : s.mode
  · exact .inl ⟨rfl, rfl⟩
  · exact .inr (.inl ⟨rfl, rfl⟩)
  · by_cases h : s.line < 144
    · simp [h]
    · simp [h]
      omega
  · by_cases h : s.line < 153
    · simp [h]
    · simp [h]
      omega

theorem State.enterMode_memoryWf (s : State) (m : PpuMode) (h : s.memoryWf) : (s.enterMode m).memoryWf :=
  s.setDirect_memoryWf _ _ h

theorem State.enterLine_memoryWf (s : State) (n : Nat) (h : s.memoryWf) : (s.enterLine n).memoryWf :=
  s.setDirect_memoryWf _ _ h

theorem State.requestVBlank_memoryWf (s : State) (h : s.memoryWf) : s.requestVBlank.memoryWf :=
  s.setDirect_memoryWf _ _ h

theorem State.withdrawVBlank_memoryWf (s : State) (h : s.memoryWf) : s.withdrawVBlank.memoryWf :=
  s.setDirect_memoryWf _ _ h

/-- What a PPU step leaves alone. -/
theorem State.ppuStep_frame (s : State) :
    (∀ r, s.ppuStep.reg r = s.reg r) ∧ sameFSpPc s s.ppuStep ∧ sameControl s s.ppuStep ∧ s.ppuStep.rom = s.rom ∧
    s.ppuStep.romBanks = s.romBanks ∧ s.ppuStep.cartRam = s.cartRam ∧ s.ppuStep.mapper = s.mapper ∧
    s.ppuStep.cfg = s.cfg ∧ s.ppuStep.sched = s.sched ∧ s.ppuStep.turn = s.turn := by
  unfold State.ppuStep State.ppuTransition
  refine ⟨?_, ?_⟩
  · intro r
    cases r <;> split <;> (try split) <;>
      simp only [State.reg, State.enterMode, State.enterLine, State.requestVBlank, State.withdrawVBlank,
        State.setDirect]
  · split <;> (try split) <;>
      simp [sameFSpPc, sameControl, State.enterMode, State.enterLine, State.requestVBlank, State.withdrawVBlank]

/-- The bytes entering a mode and entering a line leave. -/
theorem State.direct_enterMode (s : State) (m : PpuMode) (k : Word) :
    (s.enterMode m).direct k = if k = 0xFF41 then (s.direct 0xFF41 &&& 0xFC) ||| m.code else s.direct k :=
  s.direct_setDirect 0xFF41 k _

theorem State.direct_enterLine (s : State) (n : Nat) (k : Word) :
    (s.enterLine n).direct k = if k = 0xFF44 then BitVec.ofNat 8 n else s.direct k :=
  s.direct_setDirect 0xFF44 k _

theorem State.direct_requestVBlank (s : State) (k : Word) :
    s.requestVBlank.direct k = if k = 0xFF0F then s.direct 0xFF0F ||| 0x01 else s.direct k :=
  s.direct_setDirect 0xFF0F k _

theorem State.direct_withdrawVBlank (s : State) (k : Word) :
    s.withdrawVBlank.direct k = if k = 0xFF0F then s.direct 0xFF0F &&& 0xFE else s.direct k :=
  s.direct_setDirect 0xFF0F k _

/-- STAT after a mode is entered: the code below, the upper six bits as they were. -/
theorem stat_mode (d : Byte) (m : PpuMode) :
    ((d &&& 0xFC) ||| m.code) &&& 3 = m.code ∧ ((d &&& 0xFC) ||| m.code) &&& 0xFC = d &&& 0xFC ∧
    (d &&& 0x04 = 0 → ((d &&& 0xFC) ||| m.code) &&& 0x07 = m.code) := by
  cases m <;> revert d <;> decide

end Sys2Proof.Machine
end

