-- ==== Sys2Proof/Laws/Runs.lean ====
section
/-! SUPPORT. Runs under the driver's choices (00_scope.md R11): what one step of a run is, where the PPU is in its frame, and
that a weakly fair run that does not fault gives the PPU its next step; and a run for every order of the agents. -/

namespace Sys2Proof.Machine

/-! ## A step of a run -/

/-- A step whose agent the driver chose. -/
theorem step_chosen (s : State) (ag : Agent) (h : s.fault = none) :
    step (s.chosen ag) = match ag with
      | .cpu => s.cpuStep
      | .ppu => .next s.ppuStep := by
  have hu : (s.chosen ag).usedChoice = s := rfl
  have hf : (s.chosen ag).fault = none := h
  have ha : (s.chosen ag).nextAgent = ag := rfl
  cases ag <;> simp only [step, hf, hu, ha]

/-- A CPU step of a run. -/
theorem IsRun.cpu {who : Nat → Agent} {r : Nat → State} (h : IsRun who r) {n : Nat} (hf : (r n).fault = none)
    (hw : who n = .cpu) : (r n).cpuStep = .next (r (n + 1)) := by
  obtain ⟨t, ht⟩ := (r n).cpuStep_next
  have hn := h n
  rw [step_chosen _ _ hf, hw] at hn
  simp only [ht] at hn
  rw [ht, hn]

/-- A PPU step of a run. -/
theorem IsRun.ppu {who : Nat → Agent} {r : Nat → State} (h : IsRun who r) {n : Nat} (hf : (r n).fault = none)
    (hw : who n = .ppu) : r (n + 1) = (r n).ppuStep := by
  have hn := h n
  rw [step_chosen _ _ hf, hw] at hn
  exact hn

/-- A CPU step leaves the PPU, the parameters and the driver's queue. -/
theorem State.cpuStep_others {s t : State} (h : s.cpuStep = .next t) : sameOthers s t := by
  have hc : sameOthers s s.commitEi := by
    rw [s.commitEi_eq]
    exact ⟨rfl, rfl, rfl, rfl, rfl⟩
  obtain ⟨k, -, rfl⟩ | ⟨-, -, -, rfl⟩ | ⟨u, -, hu, hx⟩ := State.cpuStep_cases h
  · exact (s.dispatch_fields k).2.2.2.2.2.2.2.2
  · exact hc
  · have hsu : sameOthers s u := by
      obtain ⟨-, rfl⟩ | ⟨-, -, rfl⟩ := hu <;> exact hc
    obtain ⟨-, rfl⟩ | ⟨-, rfl⟩ := hx
    · obtain ⟨h1, h2, h3, h4, h5⟩ := (shapeOf u.fetched).post_others (u.advance u.fetched.length)
      obtain ⟨k1, k2, k3, k4, k5⟩ := hsu
      exact ⟨h1.trans k1, h2.trans k2, h3.trans k3, h4.trans k4, h5.trans k5⟩
    · exact hsu

/-- The run from a state under given choices. -/
def runFrom (who : Nat → Agent) (s : State) : Nat → State
  | 0 => s
  | n + 1 =>
    match step ((runFrom who s n).chosen (who n)) with
    | .next t => t
    | _ => runFrom who s n

/-- Every order of the agents has a run from every state. -/
theorem runFrom_isRun (who : Nat → Agent) (s : State) : IsRun who (runFrom who s) := by
  intro n
  simp only [runFrom]
  split <;> simp_all

/-! ## Where the PPU is in its frame -/

/-- The number of PPU steps since OAMSearch at line 0, for a line that fits its mode (60_exceptions.md R521). -/
def State.framePos (s : State) : Nat :=
  match s.mode with
  | .oamSearch => 3 * s.line
  | .pixelTransfer => 3 * s.line + 1
  | .hBlank => 3 * s.line - 1
  | .vBlank => 288 + s.line

/-- Where a line is entered: its LY is written there (R523). -/
def entryPos (l : Nat) : Nat := if l = 0 then 0 else if l ≤ 144 then 3 * l - 1 else 288 + l

theorem entryPos_lt {l : Nat} (h : l ≤ 153) : entryPos l < 442 := by
  unfold entryPos
  split
  · omega
  · split <;> omega

theorem State.framePos_lt {s : State} (h : s.lineOk) : s.framePos < 442 := by
  unfold State.lineOk at h
  unfold State.framePos
  cases hm : s.mode <;> simp only [hm] at h ⊢ <;> omega

/-- A PPU step moves on by one, round the frame of 442 steps (R522). -/
theorem State.ppuStep_framePos {s : State} (h : s.lineOk) :
    s.ppuStep.lineOk ∧ s.ppuStep.framePos = (s.framePos + 1) % 442 := by
  unfold State.lineOk at h
  unfold State.lineOk State.framePos State.ppuStep
  obtain ⟨hm, ht⟩ | ⟨hm, ht⟩ | ⟨hm, hl, ht⟩ | ⟨hm, hl, ht⟩ | ⟨hm, hl, ht⟩ | ⟨hm, hl, ht⟩ := s.ppuTransition_cases <;>
    rw [ht] <;> simp only [hm] at h <;>
    simp only [hm, State.enterMode, State.enterLine, State.requestVBlank, State.withdrawVBlank, State.setDirect] <;>
    omega

/-- `n` PPU steps move on by `n`. -/
theorem State.ppuRun_framePos {s : State} (h : s.lineOk) (n : Nat) :
    (s.ppuRun n).1.lineOk ∧ (s.ppuRun n).1.framePos = (s.framePos + n) % 442 := by
  induction n generalizing s with
  | zero => exact ⟨h, (Nat.mod_eq_of_lt (State.framePos_lt h)).symm⟩
  | succ n ih =>
    obtain ⟨h1, h2⟩ := State.ppuStep_framePos h
    obtain ⟨h3, h4⟩ := ih h1
    refine ⟨h3, ?_⟩
    rw [State.ppuRun, h4, h2]
    omega

/-- The last of `n + 1` PPU steps. -/
theorem State.ppuRun_last (s : State) (n : Nat) : (s.ppuRun (n + 1)).1 = (s.ppuRun n).1.ppuStep := by
  induction n generalizing s with
  | zero => rfl
  | succ n ih => exact ih s.ppuStep

/-- The frame starts in OAMSearch at line 0, and its last ten places are VBlank. -/
theorem State.framePos_eq_zero {s : State} (h : s.lineOk) : s.framePos = 0 ↔ s.mode = .oamSearch ∧ s.line = 0 := by
  unfold State.lineOk at h
  unfold State.framePos
  cases hm : s.mode <;> simp [hm] at h ⊢ <;> omega

theorem State.framePos_vBlank {s : State} (h : s.lineOk) : s.mode = .vBlank ↔ 432 ≤ s.framePos := by
  unfold State.lineOk at h
  unfold State.framePos
  cases hm : s.mode <;> simp [hm] at h ⊢ <;> omega

/-- The PPU step that enters a line leaves LINE and LY equal to it (R523). -/
theorem State.ppuStep_entry {s : State} {l : Nat} (h : s.lineOk) (hl : l ≤ 153)
    (he : s.ppuStep.framePos = entryPos l) : s.ppuStep.line = l ∧ s.ppuStep.direct 0xFF44 = BitVec.ofNat 8 l := by
  have hd : s.ppuStep.direct 0xFF44 = s.ppuTransition.1.direct 0xFF44 := rfl
  have hn : s.ppuStep.line = s.ppuTransition.1.line := rfl
  rw [(State.ppuStep_framePos h).2] at he
  unfold State.lineOk at h
  unfold State.framePos entryPos at he
  rw [hd, hn]
  obtain ⟨hm, ht⟩ | ⟨hm, ht⟩ | ⟨hm, hx, ht⟩ | ⟨hm, hx, ht⟩ | ⟨hm, hx, ht⟩ | ⟨hm, hx, ht⟩ := s.ppuTransition_cases <;>
    simp only [hm] at h he <;> rw [ht]
  · rw [Nat.mod_eq_of_lt (by omega)] at he
    split_ifs at he <;> omega
  · rw [Nat.mod_eq_of_lt (by omega)] at he
    have hs : s.line + 1 = l := by split_ifs at he <;> omega
    rw [hs, State.direct_enterMode, if_neg (by decide), State.direct_enterLine, if_pos rfl]
    exact ⟨rfl, rfl⟩
  · rw [Nat.mod_eq_of_lt (by omega)] at he
    split_ifs at he <;> omega
  · rw [Nat.mod_eq_of_lt (by omega)] at he
    split_ifs at he <;> omega
  · rw [Nat.mod_eq_of_lt (by omega)] at he
    have hs : s.line + 1 = l := by split_ifs at he <;> omega
    rw [hs, State.direct_enterMode, if_neg (by decide), State.direct_enterLine, if_pos rfl]
    exact ⟨rfl, rfl⟩
  · have hs : l = 0 := by split_ifs at he <;> omega
    rw [hs, State.direct_enterMode, if_neg (by decide), State.direct_withdrawVBlank, if_neg (by decide),
      State.direct_enterLine, if_pos rfl]
    exact ⟨rfl, rfl⟩

/-! ## Weakly fair runs -/

/-- In a run without a fault LINE goes on fitting MODE. -/
theorem IsRun.lineOk {who : Nat → Agent} {r : Nat → State} (h : IsRun who r) (hf : ∀ n, (r n).fault = none)
    (h0 : (r 0).lineOk) (n : Nat) : (r n).lineOk := by
  induction n with
  | zero => exact h0
  | succ n ih =>
    cases hw : who n with
    | cpu =>
      obtain ⟨hm, hl, -⟩ := State.cpuStep_others (h.cpu (hf n) hw)
      unfold State.lineOk at ih ⊢
      rwa [hm, hl]
    | ppu =>
      rw [h.ppu (hf n) hw]
      exact (State.ppuStep_framePos ih).1

/-- Weak fairness gives the PPU a next step, and up to it the PPU stands where it stood. -/
theorem IsRun.next_ppu {who : Nat → Agent} {r : Nat → State} (h : IsRun who r) (hw : WeaklyFair who)
    (hf : ∀ n, (r n).fault = none) (k : Nat) : ∃ m, k ≤ m ∧ who m = .ppu ∧ (r m).framePos = (r k).framePos := by
  obtain ⟨m, hk, hm⟩ := hw .ppu k
  obtain ⟨j, rfl⟩ := Nat.exists_eq_add_of_le hk
  induction j generalizing k with
  | zero => exact ⟨k, Nat.le_refl k, hm, rfl⟩
  | succ j ih =>
    cases hc : who k with
    | ppu => exact ⟨k, Nat.le_refl k, hc, rfl⟩
    | cpu =>
      obtain ⟨m, hkm, hp, he⟩ := ih (k + 1) (by omega) (by rwa [Nat.add_right_comm])
      obtain ⟨h1, h2, -⟩ := State.cpuStep_others (h.cpu (hf k) hc)
      refine ⟨m, by omega, hp, he.trans ?_⟩
      unfold State.framePos
      rw [h1, h2]

/-- In a weakly fair run without a fault the PPU reaches every place of the frame again, by a step of its own. -/
theorem IsRun.reaches {who : Nat → Agent} {r : Nat → State} (h : IsRun who r) (hw : WeaklyFair who)
    (hf : ∀ n, (r n).fault = none) (h0 : (r 0).lineOk) (d k : Nat) :
    ∃ m, k ≤ m ∧ who m = .ppu ∧ (r (m + 1)).framePos = ((r k).framePos + d + 1) % 442 := by
  induction d generalizing k with
  | zero =>
    obtain ⟨m, hk, hp, he⟩ := h.next_ppu hw hf k
    refine ⟨m, hk, hp, ?_⟩
    rw [h.ppu (hf m) hp, (State.ppuStep_framePos (h.lineOk hf h0 m)).2, he, Nat.add_zero]
  | succ d ih =>
    obtain ⟨m, hk, hp, he⟩ := h.next_ppu hw hf k
    obtain ⟨m', hm', hp', he'⟩ := ih (m + 1)
    refine ⟨m', by omega, hp', ?_⟩
    rw [he', h.ppu (hf m) hp, (State.ppuStep_framePos (h.lineOk hf h0 m)).2, he]
    omega

end Sys2Proof.Machine
end

