-- ==== Sys2Proof/Tests/Slice0.lean ====
section
/-! SUPPORT. The model's own tests. Expected values are those of spec/95_test_vectors.md (the test's docstring names the
row) or of the rule named; the opcode rows are the names of spec/opcode_table.json in the order of their bytes. Each
statement that has hypotheses has a witness here. -/

namespace Sys2Proof.Tests
open Sys2Proof.Machine

/-! ## Well-formedness -/

theorem test_bare_prefix_refused : (Instr.prefix_cb 0x37).wellFormed = false := by decide

theorem test_stop_pad_refused : (Instr.stop 0x01).wellFormed = false ∧ (Instr.stop 0x00).wellFormed = true := by decide

/-! ## Decoding -/

/-- The instruction at the head of some bytes. -/
def decoded (bytes : List Byte) : Option Instr := (decode bytes).toOption.map Prod.fst

/-- A row of sixteen opcodes of an opcode map: what the words `word k` decode to. -/
def decodedRow (word : Byte → List Byte) (first : Nat) : List Instr :=
  (List.range 16).filterMap fun k => decoded (word (BitVec.ofNat 8 (first + k)))

theorem test_decode_short :
    decode [] = .error .noOpcode ∧ decode [0xCB] = .error .noCbByte ∧ decode [0x3E] = .error (.noImmediate 0x3E) ∧
    decode [0x21, 0x34] = .error (.noImmediate 0x21) := ⟨rfl, rfl, rfl, rfl⟩

/-- One word of each family, bit by bit from 30_encoding.md R111 and R112: x, then y or p and q, then z. -/
theorem test_decode_bits :
    decoded [0b01_111_000] = some .ld_a_b ∧ decoded [0b01_110_010] = some .ld_at_hl_d ∧
    decoded [0b00_10_0_001, 0xCD, 0xAB] = some (.ld_hl_d16 0xABCD) ∧ decoded [0b11_01_0_101] = some .push_de ∧
    decoded [0b10_011_110] = some .sbc_a_at_hl ∧ decoded [0b11_101_110, 0xFF] = some (.xor_a_d8 0xFF) ∧
    decoded [0b00_011_101] = some .dec_e ∧ decoded [0b00_11_1_001] = some .add_hl_sp ∧
    decoded [0xCB, 0b00_111_001] = some .srl_c ∧ decoded [0xCB, 0b01_101_110] = some .bit_5_at_hl ∧
    decoded [0xCB, 0b10_010_111] = some .res_2_a ∧ decoded [0b11_011_010, 0x00, 0x80] = some (.jp_c_a16 0x8000) ∧
    decoded [0b11_010_111] = some .rst_10 ∧ decoded [0b11_111_011] = some .ei := by decide

theorem test_row_0 : decodedRow (fun k => [k, 0x34, 0x12]) 0x00 = [
    .nop, .ld_bc_d16 0x1234, .ld_at_bc_a, .inc_bc, .inc_b, .dec_b, .ld_b_d8 0x34, .rlca, .ld_at_a16_sp 0x1234,
    .add_hl_bc, .ld_a_at_bc, .dec_bc, .inc_c, .dec_c, .ld_c_d8 0x34, .rrca] := by decide

theorem test_row_1 : decodedRow (fun k => [k, 0x34, 0x12]) 0x10 = [
    .stop 0x34, .ld_de_d16 0x1234, .ld_at_de_a, .inc_de, .inc_d, .dec_d, .ld_d_d8 0x34, .rla, .jr_r8 0x34, .add_hl_de,
    .ld_a_at_de, .dec_de, .inc_e, .dec_e, .ld_e_d8 0x34, .rra] := by decide

theorem test_row_2 : decodedRow (fun k => [k, 0x34, 0x12]) 0x20 = [
    .jr_nz_r8 0x34, .ld_hl_d16 0x1234, .ld_at_hli_a, .inc_hl, .inc_h, .dec_h, .ld_h_d8 0x34, .daa, .jr_z_r8 0x34,
    .add_hl_hl, .ld_a_at_hli, .dec_hl, .inc_l, .dec_l, .ld_l_d8 0x34, .cpl] := by decide

theorem test_row_3 : decodedRow (fun k => [k, 0x34, 0x12]) 0x30 = [
    .jr_nc_r8 0x34, .ld_sp_d16 0x1234, .ld_at_hld_a, .inc_sp, .inc_at_hl, .dec_at_hl, .ld_at_hl_d8 0x34, .scf,
    .jr_c_r8 0x34, .add_hl_sp, .ld_a_at_hld, .dec_sp, .inc_a, .dec_a, .ld_a_d8 0x34, .ccf] := by decide

theorem test_row_4 : decodedRow (fun k => [k, 0x34, 0x12]) 0x40 = [
    .ld_b_b, .ld_b_c, .ld_b_d, .ld_b_e, .ld_b_h, .ld_b_l, .ld_b_at_hl, .ld_b_a, .ld_c_b, .ld_c_c, .ld_c_d, .ld_c_e,
    .ld_c_h, .ld_c_l, .ld_c_at_hl, .ld_c_a] := by decide

theorem test_row_5 : decodedRow (fun k => [k, 0x34, 0x12]) 0x50 = [
    .ld_d_b, .ld_d_c, .ld_d_d, .ld_d_e, .ld_d_h, .ld_d_l, .ld_d_at_hl, .ld_d_a, .ld_e_b, .ld_e_c, .ld_e_d, .ld_e_e,
    .ld_e_h, .ld_e_l, .ld_e_at_hl, .ld_e_a] := by decide

theorem test_row_6 : decodedRow (fun k => [k, 0x34, 0x12]) 0x60 = [
    .ld_h_b, .ld_h_c, .ld_h_d, .ld_h_e, .ld_h_h, .ld_h_l, .ld_h_at_hl, .ld_h_a, .ld_l_b, .ld_l_c, .ld_l_d, .ld_l_e,
    .ld_l_h, .ld_l_l, .ld_l_at_hl, .ld_l_a] := by decide

theorem test_row_7 : decodedRow (fun k => [k, 0x34, 0x12]) 0x70 = [
    .ld_at_hl_b, .ld_at_hl_c, .ld_at_hl_d, .ld_at_hl_e, .ld_at_hl_h, .ld_at_hl_l, .halt, .ld_at_hl_a, .ld_a_b,
    .ld_a_c, .ld_a_d, .ld_a_e, .ld_a_h, .ld_a_l, .ld_a_at_hl, .ld_a_a] := by decide

theorem test_row_8 : decodedRow (fun k => [k, 0x34, 0x12]) 0x80 = [
    .add_a_b, .add_a_c, .add_a_d, .add_a_e, .add_a_h, .add_a_l, .add_a_at_hl, .add_a_a, .adc_a_b, .adc_a_c, .adc_a_d,
    .adc_a_e, .adc_a_h, .adc_a_l, .adc_a_at_hl, .adc_a_a] := by decide

theorem test_row_9 : decodedRow (fun k => [k, 0x34, 0x12]) 0x90 = [
    .sub_a_b, .sub_a_c, .sub_a_d, .sub_a_e, .sub_a_h, .sub_a_l, .sub_a_at_hl, .sub_a_a, .sbc_a_b, .sbc_a_c, .sbc_a_d,
    .sbc_a_e, .sbc_a_h, .sbc_a_l, .sbc_a_at_hl, .sbc_a_a] := by decide

theorem test_row_A : decodedRow (fun k => [k, 0x34, 0x12]) 0xA0 = [
    .and_a_b, .and_a_c, .and_a_d, .and_a_e, .and_a_h, .and_a_l, .and_a_at_hl, .and_a_a, .xor_a_b, .xor_a_c, .xor_a_d,
    .xor_a_e, .xor_a_h, .xor_a_l, .xor_a_at_hl, .xor_a_a] := by decide

theorem test_row_B : decodedRow (fun k => [k, 0x34, 0x12]) 0xB0 = [
    .or_a_b, .or_a_c, .or_a_d, .or_a_e, .or_a_h, .or_a_l, .or_a_at_hl, .or_a_a, .cp_a_b, .cp_a_c, .cp_a_d, .cp_a_e,
    .cp_a_h, .cp_a_l, .cp_a_at_hl, .cp_a_a] := by decide

theorem test_row_C : decodedRow (fun k => [k, 0x34, 0x12]) 0xC0 = [
    .ret_nz, .pop_bc, .jp_nz_a16 0x1234, .jp_a16 0x1234, .call_nz_a16 0x1234, .push_bc, .add_a_d8 0x34, .rst_00,
    .ret_z, .ret, .jp_z_a16 0x1234, .swap_h, .call_z_a16 0x1234, .call_a16 0x1234, .adc_a_d8 0x34, .rst_08] := by decide

theorem test_row_D : decodedRow (fun k => [k, 0x34, 0x12]) 0xD0 = [
    .ret_nc, .pop_de, .jp_nc_a16 0x1234, .hole_d3, .call_nc_a16 0x1234, .push_de, .sub_a_d8 0x34, .rst_10, .ret_c,
    .reti, .jp_c_a16 0x1234, .hole_db, .call_c_a16 0x1234, .hole_dd, .sbc_a_d8 0x34, .rst_18] := by decide

theorem test_row_E : decodedRow (fun k => [k, 0x34, 0x12]) 0xE0 = [
    .ldh_at_a8_a 0x34, .pop_hl, .ld_at_c_a, .hole_e3, .hole_e4, .push_hl, .and_a_d8 0x34, .rst_20, .add_sp_r8 0x34,
    .jp_at_hl, .ld_at_a16_a 0x1234, .hole_eb, .hole_ec, .hole_ed, .xor_a_d8 0x34, .rst_28] := by decide

theorem test_row_F : decodedRow (fun k => [k, 0x34, 0x12]) 0xF0 = [
    .ldh_a_at_a8 0x34, .pop_af, .ld_a_at_c, .di, .hole_f4, .push_af, .or_a_d8 0x34, .rst_30, .ld_hl_sp_r8 0x34,
    .ld_sp_hl, .ld_a_at_a16 0x1234, .ei, .hole_fc, .hole_fd, .cp_a_d8 0x34, .rst_38] := by decide

theorem test_row_cb_0 : decodedRow (fun k => [0xCB, k]) 0x00 = [
    .rlc_b, .rlc_c, .rlc_d, .rlc_e, .rlc_h, .rlc_l, .rlc_at_hl, .rlc_a, .rrc_b, .rrc_c, .rrc_d, .rrc_e, .rrc_h,
    .rrc_l, .rrc_at_hl, .rrc_a] := by decide

theorem test_row_cb_1 : decodedRow (fun k => [0xCB, k]) 0x10 = [
    .rl_b, .rl_c, .rl_d, .rl_e, .rl_h, .rl_l, .rl_at_hl, .rl_a, .rr_b, .rr_c, .rr_d, .rr_e, .rr_h, .rr_l, .rr_at_hl,
    .rr_a] := by decide

theorem test_row_cb_2 : decodedRow (fun k => [0xCB, k]) 0x20 = [
    .sla_b, .sla_c, .sla_d, .sla_e, .sla_h, .sla_l, .sla_at_hl, .sla_a, .sra_b, .sra_c, .sra_d, .sra_e, .sra_h,
    .sra_l, .sra_at_hl, .sra_a] := by decide

theorem test_row_cb_3 : decodedRow (fun k => [0xCB, k]) 0x30 = [
    .swap_b, .swap_c, .swap_d, .swap_e, .swap_h, .swap_l, .swap_at_hl, .swap_a, .srl_b, .srl_c, .srl_d, .srl_e,
    .srl_h, .srl_l, .srl_at_hl, .srl_a] := by decide

theorem test_row_cb_4 : decodedRow (fun k => [0xCB, k]) 0x40 = [
    .bit_0_b, .bit_0_c, .bit_0_d, .bit_0_e, .bit_0_h, .bit_0_l, .bit_0_at_hl, .bit_0_a, .bit_1_b, .bit_1_c, .bit_1_d,
    .bit_1_e, .bit_1_h, .bit_1_l, .bit_1_at_hl, .bit_1_a] := by decide

theorem test_row_cb_5 : decodedRow (fun k => [0xCB, k]) 0x50 = [
    .bit_2_b, .bit_2_c, .bit_2_d, .bit_2_e, .bit_2_h, .bit_2_l, .bit_2_at_hl, .bit_2_a, .bit_3_b, .bit_3_c, .bit_3_d,
    .bit_3_e, .bit_3_h, .bit_3_l, .bit_3_at_hl, .bit_3_a] := by decide

theorem test_row_cb_6 : decodedRow (fun k => [0xCB, k]) 0x60 = [
    .bit_4_b, .bit_4_c, .bit_4_d, .bit_4_e, .bit_4_h, .bit_4_l, .bit_4_at_hl, .bit_4_a, .bit_5_b, .bit_5_c, .bit_5_d,
    .bit_5_e, .bit_5_h, .bit_5_l, .bit_5_at_hl, .bit_5_a] := by decide

theorem test_row_cb_7 : decodedRow (fun k => [0xCB, k]) 0x70 = [
    .bit_6_b, .bit_6_c, .bit_6_d, .bit_6_e, .bit_6_h, .bit_6_l, .bit_6_at_hl, .bit_6_a, .bit_7_b, .bit_7_c, .bit_7_d,
    .bit_7_e, .bit_7_h, .bit_7_l, .bit_7_at_hl, .bit_7_a] := by decide

theorem test_row_cb_8 : decodedRow (fun k => [0xCB, k]) 0x80 = [
    .res_0_b, .res_0_c, .res_0_d, .res_0_e, .res_0_h, .res_0_l, .res_0_at_hl, .res_0_a, .res_1_b, .res_1_c, .res_1_d,
    .res_1_e, .res_1_h, .res_1_l, .res_1_at_hl, .res_1_a] := by decide

theorem test_row_cb_9 : decodedRow (fun k => [0xCB, k]) 0x90 = [
    .res_2_b, .res_2_c, .res_2_d, .res_2_e, .res_2_h, .res_2_l, .res_2_at_hl, .res_2_a, .res_3_b, .res_3_c, .res_3_d,
    .res_3_e, .res_3_h, .res_3_l, .res_3_at_hl, .res_3_a] := by decide

theorem test_row_cb_A : decodedRow (fun k => [0xCB, k]) 0xA0 = [
    .res_4_b, .res_4_c, .res_4_d, .res_4_e, .res_4_h, .res_4_l, .res_4_at_hl, .res_4_a, .res_5_b, .res_5_c, .res_5_d,
    .res_5_e, .res_5_h, .res_5_l, .res_5_at_hl, .res_5_a] := by decide

theorem test_row_cb_B : decodedRow (fun k => [0xCB, k]) 0xB0 = [
    .res_6_b, .res_6_c, .res_6_d, .res_6_e, .res_6_h, .res_6_l, .res_6_at_hl, .res_6_a, .res_7_b, .res_7_c, .res_7_d,
    .res_7_e, .res_7_h, .res_7_l, .res_7_at_hl, .res_7_a] := by decide

theorem test_row_cb_C : decodedRow (fun k => [0xCB, k]) 0xC0 = [
    .set_0_b, .set_0_c, .set_0_d, .set_0_e, .set_0_h, .set_0_l, .set_0_at_hl, .set_0_a, .set_1_b, .set_1_c, .set_1_d,
    .set_1_e, .set_1_h, .set_1_l, .set_1_at_hl, .set_1_a] := by decide

theorem test_row_cb_D : decodedRow (fun k => [0xCB, k]) 0xD0 = [
    .set_2_b, .set_2_c, .set_2_d, .set_2_e, .set_2_h, .set_2_l, .set_2_at_hl, .set_2_a, .set_3_b, .set_3_c, .set_3_d,
    .set_3_e, .set_3_h, .set_3_l, .set_3_at_hl, .set_3_a] := by decide

theorem test_row_cb_E : decodedRow (fun k => [0xCB, k]) 0xE0 = [
    .set_4_b, .set_4_c, .set_4_d, .set_4_e, .set_4_h, .set_4_l, .set_4_at_hl, .set_4_a, .set_5_b, .set_5_c, .set_5_d,
    .set_5_e, .set_5_h, .set_5_l, .set_5_at_hl, .set_5_a] := by decide

theorem test_row_cb_F : decodedRow (fun k => [0xCB, k]) 0xF0 = [
    .set_6_b, .set_6_c, .set_6_d, .set_6_e, .set_6_h, .set_6_l, .set_6_at_hl, .set_6_a, .set_7_b, .set_7_c, .set_7_d,
    .set_7_e, .set_7_h, .set_7_l, .set_7_at_hl, .set_7_a] := by decide

/-- Numbers as the table writes them: the byte, the CB pair with the prefix first (R122), and little-endian operands. -/
theorem test_table_words :
    decodeTableWord 8 0x04 = some .inc_b ∧ decodeTableWord 16 0xCB37 = some .swap_a ∧
    decodeTableWord 16 0x37CB = some .swap_a ∧ decodeTableWord 16 0x7F3E = some (.ld_a_d8 0x7F) ∧
    decodeTableWord 8 0x3E = some (.ld_a_d8 0x00) ∧ decodeTableWord 24 0x123421 = some (.ld_hl_d16 0x1234) := by decide

/-! ## One step -/

/-- The reset state with the CPU to move. -/
def start : State := { State.reset with sched := [.cpu] }

/-- One step from `s` answers a next state with `P`. -/
def after (s : State) (P : State → Prop) [DecidablePred P] : Bool :=
  match step s with
  | .next t => decide (P t)
  | _ => false

/-- A word placed where the next step fetches runs as the first instruction after reset. -/
theorem test_withFetchWord :
    (after (State.reset.withFetchWord 8 0x04) fun t => t.b = 0x01) ∧
    (after (State.reset.withFetchWord 16 0xCB37) fun t => t.a = 0x10 ∧ t.pc = 0x0102) ∧
    (after (State.reset.withFetchWord 24 0x123421) fun t => t.pair .hl = 0x1234) := by decide

/-- E1: §8 INC r at 0xFF then DEC r (42_alu8.md rule R272, R274) -/
theorem test_E1 :
  after { start with b := 0xFF, f := 0x00, rom := [(0x0100, 0x04), (0x0101, 0x05)] } fun t =>
    t.b = 0x00 ∧ t.f = 0xA0 := by decide

/-- E3b: §8 write_short at 0xFFFF wraps: low byte to IE, high byte to 0x0000 (mapper control, no store) (20_memory.md
rules R78, R80) -/
theorem test_E3b :
  after { start with sp := 0x1234, rom := [(0x0100, 0x08), (0x0101, 0xFF), (0x0102, 0xFF)] } fun t =>
    t.direct 0xFFFF = 0x34 ∧ t.read 0x0000 = 0x00 := by decide

/-- E6: §8 dispatch: IE = IF = 0x01, IME = 1, PC = 0x0234 (60_exceptions.md rule R504) -/
theorem test_E6 :
  after { start with pc := 0x0234, sp := 0xFFFE, ime := true, backing := [(0xFF0F, 0x01), (0xFFFF, 0x01)] } fun t =>
    t.pc = 0x0040 ∧ t.sp = 0xFFFC ∧ t.ime = false ∧ t.direct 0xFF0F = 0x00 ∧ t.direct 0xFFFD = 0x02 ∧ t.direct 0xFFFC = 0x34 ∧ t.returned = some 80 := by decide

/-- L1: LD B,C (40_load8.md rule R200) -/
theorem test_L1 :
  after { start with rom := [(0x0100, 0x41)] } fun t =>
    t.b = 0x13 ∧ t.c = 0x13 ∧ t.f = 0xB0 ∧ t.pc = 0x0101 := by decide

/-- L2: LD A,d8 (40_load8.md rule R201) -/
theorem test_L2 :
  after { start with rom := [(0x0100, 0x3E), (0x0101, 0x42)] } fun t =>
    t.a = 0x42 ∧ t.pc = 0x0102 := by decide

/-- L3: LD A,(HL) from work RAM (40_load8.md rule R202) -/
theorem test_L3 :
  after { start with h := 0xC0, l := 0x00, rom := [(0x0100, 0x7E)], backing := [(0xC000, 0x5A)] } fun t =>
    t.a = 0x5A := by decide

/-- L4: LD (HL),A through echo (40_load8.md rule R203) -/
theorem test_L4 :
  after { start with a := 0x3C, h := 0xE0, l := 0x05, rom := [(0x0100, 0x77)] } fun t =>
    t.direct 0xC005 = 0x3C ∧ t.direct 0xE005 = 0x00 := by decide

/-- L5: LD (HL),d8 to STAT keeps bits 2:0 (40_load8.md rule R204; 20_memory.md rule R68) -/
theorem test_L5 :
  after { start with h := 0xFF, l := 0x41, rom := [(0x0100, 0x36), (0x0101, 0x99)] } fun t =>
    t.direct 0xFF41 = 0x9A ∧ t.pc = 0x0102 := by decide

/-- L6: LD (HL+),A at HL = 0xFFFF writes IE and wraps HL (40_load8.md rule R209) -/
theorem test_L6 :
  after { start with a := 0x1F, h := 0xFF, l := 0xFF, rom := [(0x0100, 0x22)] } fun t =>
    t.pair .hl = 0x0000 ∧ t.direct 0xFFFF = 0x1F := by decide

/-- L7: LD A,(HL-) at HL = 0x0000 reads ROM and wraps HL (40_load8.md rule R212) -/
theorem test_L7 :
  after { start with h := 0x00, l := 0x00, rom := [(0x0000, 0xC3), (0x0100, 0x3A)] } fun t =>
    t.a = 0xC3 ∧ t.pair .hl = 0xFFFF := by decide

/-- L8: LDH A,(0x0F) reads IF with bits 7:5 set (40_load8.md rule R214; 20_memory.md rule R67) -/
theorem test_L8 :
  after { start with rom := [(0x0100, 0xF0), (0x0101, 0x0F)], backing := [(0xFF0F, 0x01)] } fun t =>
    t.a = 0xE1 ∧ t.direct 0xFF0F = 0x01 := by decide

/-- L9: LD (C),A to high RAM (40_load8.md rule R215) -/
theorem test_L9 :
  after { start with a := 0x66, c := 0x80, rom := [(0x0100, 0xE2)] } fun t =>
    t.direct 0xFF80 = 0x66 := by decide

/-- L10: LD A,(0xFEA0) reads 0xFF (40_load8.md rule R218; 20_memory.md rule R66) -/
theorem test_L10 :
  after { start with rom := [(0x0100, 0xFA), (0x0101, 0xA0), (0x0102, 0xFE)], backing := [(0xFEA0, 0x12)] } fun t =>
    t.a = 0xFF ∧ t.pc = 0x0103 := by decide

/-- L11: LD (BC),A into RomOnly ROM is a no-op (40_load8.md rule R207; 20_memory.md rule R69) -/
theorem test_L11 :
  after { start with a := 0x55, b := 0x10, c := 0x00, rom := [(0x0100, 0x02), (0x1000, 0x99)] } fun t =>
    t.read 0x1000 = 0x99 := by decide

/-- L13: LD (0xFFFF),A sets IE (40_load8.md rule R217) -/
theorem test_L13 :
  after { start with a := 0x01, rom := [(0x0100, 0xEA), (0x0101, 0xFF), (0x0102, 0xFF)] } fun t =>
    t.direct 0xFFFF = 0x01 ∧ t.pc = 0x0103 := by decide

/-- L14: LD A,(C) with C = 0x41 reads STAT (40_load8.md rule R216) -/
theorem test_L14 :
  after { start with c := 0x41, rom := [(0x0100, 0xF2)] } fun t =>
    t.a = 0x02 := by decide

/-- S1: LD SP,d16 (41_load16_stack.md rule R231) -/
theorem test_S1 :
  after { start with rom := [(0x0100, 0x31), (0x0101, 0xF0), (0x0102, 0xDF)] } fun t =>
    t.sp = 0xDFF0 ∧ t.pc = 0x0103 := by decide

/-- S2: LD (a16),SP (41_load16_stack.md rule R232) -/
theorem test_S2 :
  after { start with rom := [(0x0100, 0x08), (0x0102, 0xC0)] } fun t =>
    t.direct 0xC000 = 0xFE ∧ t.direct 0xC001 = 0xFF := by decide

/-- S3: LD SP,HL (41_load16_stack.md rule R233) -/
theorem test_S3 :
  after { start with rom := [(0x0100, 0xF9)] } fun t =>
    t.sp = 0x014D := by decide

/-- S4: LD HL,SP+2 from 0xFFF8 (41_load16_stack.md rule R234) -/
theorem test_S4 :
  after { start with sp := 0xFFF8, rom := [(0x0100, 0xF8), (0x0101, 0x02)] } fun t =>
    t.pair .hl = 0xFFFA ∧ t.f = 0x00 ∧ t.sp = 0xFFF8 := by decide

/-- S5: LD HL,SP-1 from 0x0001: H = C = 1 (41_load16_stack.md rule R234) -/
theorem test_S5 :
  after { start with sp := 0x0001, rom := [(0x0100, 0xF8), (0x0101, 0xFF)] } fun t =>
    t.pair .hl = 0x0000 ∧ t.f = 0x30 := by decide

/-- S6: PUSH BC writes high byte at SP-1 (41_load16_stack.md rule R235) -/
theorem test_S6 :
  after { start with b := 0x12, c := 0x34, rom := [(0x0100, 0xC5)] } fun t =>
    t.sp = 0xFFFC ∧ t.direct 0xFFFD = 0x12 ∧ t.direct 0xFFFC = 0x34 := by decide

/-- S7: POP AF clears F[3:0] (41_load16_stack.md rule R237) -/
theorem test_S7 :
  after { start with sp := 0xC000, rom := [(0x0100, 0xF1)], backing := [(0xC000, 0xFF), (0xC001, 0x12)] } fun t =>
    t.a = 0x12 ∧ t.f = 0xF0 ∧ t.sp = 0xC002 := by decide

/-- S8: PUSH DE at SP = 0x0001: high byte to 0x0000 (mapper), low byte to IE, SP = 0xFFFF (41_load16_stack.md rule
R235; 20_memory.md rule R80) -/
theorem test_S8 :
  after { start with sp := 0x0001, d := 0xAB, e := 0x1F, rom := [(0x0100, 0xD5)] } fun t =>
    t.sp = 0xFFFF ∧ t.direct 0xFFFF = 0x1F := by decide

/-- S9: POP HL at SP = 0xFFFF reads IE then 0x0000 and wraps SP (41_load16_stack.md rule R236) -/
theorem test_S9 :
  after { start with sp := 0xFFFF, rom := [(0x0000, 0x80), (0x0100, 0xE1)], backing := [(0xFFFF, 0x05)] } fun t =>
    t.pair .hl = 0x8005 ∧ t.sp = 0x0001 := by decide

/-- A1: ADD A,B: 0x3A + 0xC6 (42_alu8.md rule R264) -/
theorem test_A1 :
  after { start with a := 0x3A, b := 0xC6, rom := [(0x0100, 0x80)] } fun t =>
    t.a = 0x00 ∧ t.f = 0xB0 := by decide

/-- A4: ADC A,d8: 0xE1 + 0x0F + 1 (42_alu8.md rule R265) -/
theorem test_A4 :
  after { start with a := 0xE1, f := 0x10, rom := [(0x0100, 0xCE), (0x0101, 0x0F)] } fun t =>
    t.a = 0xF1 ∧ t.f = 0x20 := by decide

/-- A6: SUB A,d8: 0x3E - 0x0F (borrow) (42_alu8.md rule R266) -/
theorem test_A6 :
  after { start with a := 0x3E, rom := [(0x0100, 0xD6), (0x0101, 0x0F)] } fun t =>
    t.a = 0x2F ∧ t.f = 0x60 := by decide

/-- A7: SUB A,d8: 0x3E - 0x0F with HSUB_MODE(SUB) = inverted (42_alu8.md rule R262, R266) -/
theorem test_A7 :
  after { start with
      a := 0x3E, rom := [(0x0100, 0xD6), (0x0101, 0x0F)],
      cfg := { Config.default with hsubSub := .inverted } } fun t =>
    t.a = 0x2F ∧ t.f = 0x40 := by decide

/-- A9: SUB A,B: 0x10 - 0x20 borrows (42_alu8.md rule R266) -/
theorem test_A9 :
  after { start with a := 0x10, b := 0x20, rom := [(0x0100, 0x90)] } fun t =>
    t.a = 0xF0 ∧ t.f = 0x50 := by decide

/-- A11: SBC A,A with C = 1 (42_alu8.md rule R267) -/
theorem test_A11 :
  after { start with a := 0x55, f := 0x10, rom := [(0x0100, 0x9F)] } fun t =>
    t.a = 0xFF ∧ t.f = 0x70 := by decide

/-- A13: AND A,(HL) giving zero (42_alu8.md rule R268) -/
theorem test_A13 :
  after { start with a := 0xF0, h := 0xC0, l := 0x00, rom := [(0x0100, 0xA6)], backing := [(0xC000, 0x0F)] } fun t =>
    t.a = 0x00 ∧ t.f = 0xA0 := by decide

/-- A14: XOR A,d8 (42_alu8.md rule R269) -/
theorem test_A14 :
  after { start with a := 0xFF, rom := [(0x0100, 0xEE), (0x0101, 0x0F)] } fun t =>
    t.a = 0xF0 ∧ t.f = 0x00 := by decide

/-- A15: OR A,B (42_alu8.md rule R270) -/
theorem test_A15 :
  after { start with a := 0x00, b := 0x00, rom := [(0x0100, 0xB0)] } fun t =>
    t.a = 0x00 ∧ t.f = 0x80 := by decide

/-- A16: CP A,d8: 0x3C vs 0x40 (42_alu8.md rule R271) -/
theorem test_A16 :
  after { start with a := 0x3C, rom := [(0x0100, 0xFE), (0x0101, 0x40)] } fun t =>
    t.a = 0x3C ∧ t.f = 0x50 := by decide

/-- A18: INC A at 0x0F keeps C (42_alu8.md rule R272) -/
theorem test_A18 :
  after { start with a := 0x0F, f := 0x10, rom := [(0x0100, 0x3C)] } fun t =>
    t.a = 0x10 ∧ t.f = 0x30 := by decide

/-- A20: INC (HL) at IF reads the forced bits (42_alu8.md rule R273) -/
theorem test_A20 :
  after { start with h := 0xFF, l := 0x0F, f := 0x00, rom := [(0x0100, 0x34)] } fun t =>
    t.direct 0xFF0F = 0xE1 ∧ t.f = 0x00 := by decide

/-- A22: DEC E at 0x10 (42_alu8.md rule R274) -/
theorem test_A22 :
  after { start with e := 0x10, f := 0x10, rom := [(0x0100, 0x1D)] } fun t =>
    t.e = 0x0F ∧ t.f = 0x70 := by decide

/-- A23: DEC (HL) at 0x00 (42_alu8.md rule R275) -/
theorem test_A23 :
  after { start with h := 0xC0, l := 0x00, f := 0x00, rom := [(0x0100, 0x35)] } fun t =>
    t.direct 0xC000 = 0xFF ∧ t.f = 0x60 := by decide

/-- A24: DAA under the default configuration is fatal (42_alu8.md rule R276) -/
theorem test_A24 :
  after { start with rom := [(0x0100, 0x27)] } fun t =>
    t.fault = some ⟨.primary, 0x27, 0x0100⟩ ∧ t.pc = 0x0101 := by decide

/-- A26: DAA admitted: A = 0x9A, flags clear (42_alu8.md rule R276) -/
theorem test_A26 :
  after { start with
      a := 0x9A, f := 0x00, rom := [(0x0100, 0x27)],
      cfg := { Config.default with withheld := [⟨.primary, 0x10⟩, ⟨.primary, 0x76⟩] } } fun t =>
    t.a = 0x00 ∧ t.f = 0x90 := by decide

/-- A27: CPL (42_alu8.md rule R277) -/
theorem test_A27 :
  after { start with a := 0x35, f := 0x00, rom := [(0x0100, 0x2F)] } fun t =>
    t.a = 0xCA ∧ t.f = 0x60 := by decide

/-- A28: SCF (42_alu8.md rule R278) -/
theorem test_A28 :
  after { start with f := 0x80, rom := [(0x0100, 0x37)] } fun t =>
    t.f = 0x90 := by decide

/-- A29: CCF (42_alu8.md rule R279) -/
theorem test_A29 :
  after { start with f := 0xF0, rom := [(0x0100, 0x3F)] } fun t =>
    t.f = 0x80 := by decide

/-- W1: INC BC wraps, no flags (43_alu16.md rule R300) -/
theorem test_W1 :
  after { start with b := 0xFF, c := 0xFF, f := 0x00, rom := [(0x0100, 0x03)] } fun t =>
    t.pair .bc = 0x0000 ∧ t.f = 0x00 := by decide

/-- W2: DEC SP from 0x0000 (43_alu16.md rule R301) -/
theorem test_W2 :
  after { start with sp := 0x0000, rom := [(0x0100, 0x3B)] } fun t =>
    t.sp = 0xFFFF ∧ t.f = 0xB0 := by decide

/-- W3: ADD HL,BC: 0x0FFF + 1 (43_alu16.md rule R302) -/
theorem test_W3 :
  after { start with h := 0x0F, l := 0xFF, b := 0x00, c := 0x01, f := 0x80, rom := [(0x0100, 0x09)] } fun t =>
    t.pair .hl = 0x1000 ∧ t.f = 0xA0 := by decide

/-- W5: ADD HL,BC: 0x00FF + 1, ADDHL_H_MASK = 0x0100 (43_alu16.md rule R302) -/
theorem test_W5 :
  after { start with
      h := 0x00, l := 0xFF, b := 0x00, c := 0x01, f := 0x00, rom := [(0x0100, 0x09)],
      cfg := { Config.default with addHlHMask := .mask0100 } } fun t =>
    t.pair .hl = 0x0100 ∧ t.f = 0x20 := by decide

/-- W6: ADD HL,HL: 0x8000, Z kept (43_alu16.md rule R302) -/
theorem test_W6 :
  after { start with h := 0x80, l := 0x00, f := 0x80, rom := [(0x0100, 0x29)] } fun t =>
    t.pair .hl = 0x0000 ∧ t.f = 0x90 := by decide

/-- W9: ADD SP,-1 from 0x0001 (43_alu16.md rule R303) -/
theorem test_W9 :
  after { start with sp := 0x0001, rom := [(0x0100, 0xE8), (0x0101, 0xFF)] } fun t =>
    t.sp = 0x0000 ∧ t.f = 0x30 := by decide

/-- R1: RLCA 0x85 (44_rotate_shift.md rule R320) -/
theorem test_R1 :
  after { start with a := 0x85, f := 0x00, rom := [(0x0100, 0x07)] } fun t =>
    t.a = 0x0B ∧ t.f = 0x10 := by decide

/-- R2: RRCA 0x01 (44_rotate_shift.md rule R321) -/
theorem test_R2 :
  after { start with a := 0x01, f := 0x00, rom := [(0x0100, 0x0F)] } fun t =>
    t.a = 0x80 ∧ t.f = 0x10 := by decide

/-- R3: RLA 0x80 with C = 0 gives 0 and Z = 0 (44_rotate_shift.md rule R322) -/
theorem test_R3 :
  after { start with a := 0x80, f := 0x00, rom := [(0x0100, 0x17)] } fun t =>
    t.a = 0x00 ∧ t.f = 0x10 := by decide

/-- R4: RRA 0x01 with C = 1 (44_rotate_shift.md rule R323) -/
theorem test_R4 :
  after { start with a := 0x01, f := 0x10, rom := [(0x0100, 0x1F)] } fun t =>
    t.a = 0x80 ∧ t.f = 0x10 := by decide

/-- R5: RL B 0x80, C = 0, CB_SHIFT_Z = clear (44_rotate_shift.md rule R327) -/
theorem test_R5 :
  after { start with b := 0x80, f := 0x00, rom := [(0x0100, 0xCB), (0x0101, 0x10)] } fun t =>
    t.b = 0x00 ∧ t.f = 0x10 ∧ t.pc = 0x0102 := by decide

/-- R6: RL B 0x80, C = 0, CB_SHIFT_Z = result (44_rotate_shift.md rules R324, R327) -/
theorem test_R6 :
  after { start with
      b := 0x80, f := 0x00, rom := [(0x0100, 0xCB), (0x0101, 0x10)],
      cfg := { Config.default with cbShiftZ := .result } } fun t =>
    t.b = 0x00 ∧ t.f = 0x90 := by decide

/-- R7: RR C 0x01 with C = 1 (44_rotate_shift.md rule R328) -/
theorem test_R7 :
  after { start with c := 0x01, f := 0x10, rom := [(0x0100, 0xCB), (0x0101, 0x19)] } fun t =>
    t.c = 0x80 ∧ t.f = 0x10 := by decide

/-- R9: SWAP A 0x00 sets Z under either CB_SHIFT_Z (44_rotate_shift.md rule R331) -/
theorem test_R9 :
  after { start with a := 0x00, rom := [(0x0100, 0xCB), (0x0101, 0x37)] } fun t =>
    t.a = 0x00 ∧ t.f = 0x80 := by decide

/-- R12: RLC (HL) 0x80 (44_rotate_shift.md rule R325) -/
theorem test_R12 :
  after { start with
      h := 0xC0, l := 0x10, f := 0x00, rom := [(0x0100, 0xCB), (0x0101, 0x06)], backing := [(0xC010, 0x80)] } fun t =>
    t.direct 0xC010 = 0x01 ∧ t.f = 0x10 := by decide

/-- R13: RRC D 0x02 (44_rotate_shift.md rule R326) -/
theorem test_R13 :
  after { start with d := 0x02, f := 0xF0, rom := [(0x0100, 0xCB), (0x0101, 0x0A)] } fun t =>
    t.d = 0x01 ∧ t.f = 0x00 := by decide

/-- R14: SLA E 0xC0 (44_rotate_shift.md rule R329) -/
theorem test_R14 :
  after { start with e := 0xC0, f := 0x00, rom := [(0x0100, 0xCB), (0x0101, 0x23)] } fun t =>
    t.e = 0x80 ∧ t.f = 0x10 := by decide

/-- R15: SRA H 0x81 (44_rotate_shift.md rule R330) -/
theorem test_R15 :
  after { start with h := 0x81, f := 0x00, rom := [(0x0100, 0xCB), (0x0101, 0x2C)] } fun t =>
    t.h = 0xC0 ∧ t.f = 0x10 := by decide

/-- R16: SWAP (HL) through echo (44_rotate_shift.md rule R331) -/
theorem test_R16 :
  after { start with
      h := 0xE1, l := 0x00, rom := [(0x0100, 0xCB), (0x0101, 0x36)], backing := [(0xC100, 0xA5)] } fun t =>
    t.direct 0xC100 = 0x5A ∧ t.f = 0x00 := by decide

/-- R10: SRL A 0x01 (44_rotate_shift.md rule R332) -/
theorem test_R10 :
  after { start with a := 0x01, f := 0x00, rom := [(0x0100, 0xCB), (0x0101, 0x3F)] } fun t =>
    t.a = 0x00 ∧ t.f = 0x10 := by decide

/-- B1: BIT 7,H with H = 0x80 keeps C (45_bit.md rule R350) -/
theorem test_B1 :
  after { start with h := 0x80, f := 0x10, rom := [(0x0100, 0xCB), (0x0101, 0x7C)] } fun t =>
    t.f = 0x30 ∧ t.h = 0x80 := by decide

/-- B3: BIT 3,(HL) (45_bit.md rule R351) -/
theorem test_B3 :
  after { start with
      h := 0xC0, l := 0x00, f := 0x50, rom := [(0x0100, 0xCB), (0x0101, 0x5E)], backing := [(0xC000, 0x08)] } fun t =>
    t.f = 0x30 := by decide

/-- B4: RES 0,A (45_bit.md rule R352) -/
theorem test_B4 :
  after { start with a := 0xFF, f := 0x00, rom := [(0x0100, 0xCB), (0x0101, 0x87)] } fun t =>
    t.a = 0xFE ∧ t.f = 0x00 := by decide

/-- B5: RES 7,(HL) on IF leaves the stored byte (45_bit.md rule R353) -/
theorem test_B5 :
  after { start with
      h := 0xFF, l := 0x0F, rom := [(0x0100, 0xCB), (0x0101, 0xBE)], backing := [(0xFF0F, 0x01)] } fun t =>
    t.direct 0xFF0F = 0x61 := by decide

/-- B6: SET 1,E (second byte 0xCB) (45_bit.md rule R354) -/
theorem test_B6 :
  after { start with e := 0x00, f := 0xB0, rom := [(0x0100, 0xCB), (0x0101, 0xCB)] } fun t =>
    t.e = 0x02 ∧ t.f = 0xB0 ∧ t.pc = 0x0102 := by decide

/-- B7: SET 7,(HL) (45_bit.md rule R355) -/
theorem test_B7 :
  after { start with h := 0xC0, l := 0x00, rom := [(0x0100, 0xCB), (0x0101, 0xFE)] } fun t =>
    t.direct 0xC000 = 0x80 := by decide

/-- J1: JP a16 (46_control.md rule R371) -/
theorem test_J1 :
  after { start with rom := [(0x0100, 0xC3), (0x0101, 0x50), (0x0102, 0x01)] } fun t =>
    t.pc = 0x0150 ∧ t.returned = some 16 := by decide

/-- J2: JP NZ not taken (Z = 1) (46_control.md rule R372) -/
theorem test_J2 :
  after { start with rom := [(0x0100, 0xC2), (0x0101, 0x50), (0x0102, 0x01)] } fun t =>
    t.pc = 0x0103 ∧ t.returned = some 12 := by decide

/-- J4: JP (HL) (46_control.md rule R373) -/
theorem test_J4 :
  after { start with rom := [(0x0100, 0xE9)] } fun t =>
    t.pc = 0x014D := by decide

/-- J7: JR +5 at 0xFFFE wraps to 0x0005 (46_control.md rule R374) -/
theorem test_J7 :
  after { start with pc := 0xFFFE, backing := [(0xFFFE, 0x18), (0xFFFF, 0x05)] } fun t =>
    t.pc = 0x0005 := by decide

/-- J9: JR C taken (46_control.md rule R375) -/
theorem test_J9 :
  after { start with rom := [(0x0100, 0x38), (0x0101, 0x10)] } fun t =>
    t.pc = 0x0112 ∧ t.returned = some 12 := by decide

/-- J10: CALL a16 pushes the address after the instruction (46_control.md rule R376) -/
theorem test_J10 :
  after { start with rom := [(0x0100, 0xCD), (0x0101, 0x34), (0x0102, 0x12)] } fun t =>
    t.pc = 0x1234 ∧ t.sp = 0xFFFC ∧ t.direct 0xFFFD = 0x01 ∧ t.direct 0xFFFC = 0x03 := by decide

/-- J11: CALL NC not taken (46_control.md rule R377) -/
theorem test_J11 :
  after { start with rom := [(0x0100, 0xD4), (0x0101, 0x34), (0x0102, 0x12)] } fun t =>
    t.pc = 0x0103 ∧ t.sp = 0xFFFE := by decide

/-- J12: RET (46_control.md rule R378) -/
theorem test_J12 :
  after { start with sp := 0xFFFC, rom := [(0x0100, 0xC9)], backing := [(0xFFFC, 0x53), (0xFFFD, 0x01)] } fun t =>
    t.pc = 0x0153 ∧ t.sp = 0xFFFE := by decide

/-- J13: RET NZ not taken (46_control.md rule R379) -/
theorem test_J13 :
  after { start with sp := 0xFFFC, rom := [(0x0100, 0xC0)] } fun t =>
    t.pc = 0x0101 ∧ t.sp = 0xFFFC ∧ t.returned = some 8 := by decide

/-- J15: RETI, RETI_MODE = immediate (46_control.md rule R380) -/
theorem test_J15 :
  after { start with sp := 0xFFFC, rom := [(0x0100, 0xD9)], backing := [(0xFFFC, 0x53), (0xFFFD, 0x01)] } fun t =>
    t.pc = 0x0153 ∧ t.sp = 0xFFFE ∧ t.ime = true ∧ t.eip = false := by decide

/-- J16: RETI, RETI_MODE = delayed (46_control.md rule R380) -/
theorem test_J16 :
  after { start with
      sp := 0xFFFC, rom := [(0x0100, 0xD9)], backing := [(0xFFFC, 0x53), (0xFFFD, 0x01)],
      cfg := { Config.default with retiMode := .delayed } } fun t =>
    t.pc = 0x0153 ∧ t.ime = false ∧ t.eip = true := by decide

/-- J17: RST 0x38 (46_control.md rule R381) -/
theorem test_J17 :
  after { start with rom := [(0x0100, 0xFF)] } fun t =>
    t.pc = 0x0038 ∧ t.sp = 0xFFFC ∧ t.direct 0xFFFD = 0x01 ∧ t.direct 0xFFFC = 0x01 := by decide

/-- X1: NOP (47_system.md rule R400) -/
theorem test_X1 :
  after { start with  } fun t =>
    t.pc = 0x0101 ∧ t.f = 0xB0 := by decide

/-- X2: DI (47_system.md rule R401) -/
theorem test_X2 :
  after { start with ime := true, rom := [(0x0100, 0xF3)] } fun t =>
    t.ime = false := by decide

/-- X7: STOP is always fatal (47_system.md rule R404) -/
theorem test_X7 :
  after { start with pc := 0x0150, rom := [(0x0150, 0x10)] } fun t =>
    t.fault = some ⟨.primary, 0x10, 0x0150⟩ ∧ t.pc = 0x0151 := by decide

/-- X8: hole 0xD3 (47_system.md rule R406) -/
theorem test_X8 :
  after { start with pc := 0x0300, rom := [(0x0300, 0xD3)] } fun t =>
    t.fault = some ⟨.primary, 0xD3, 0x0300⟩ ∧ t.pc = 0x0301 ∧ t.f = 0xB0 := by decide

/-- X9: CB extra removed from ADMIT_EXTRA: CB 0x00 is fatal (47_system.md rules R405, R406) -/
theorem test_X9 :
  after { start with
      rom := [(0x0100, 0xCB)],
      cfg := { Config.default with withheld := [⟨.primary, 0x10⟩, ⟨.primary, 0x27⟩, ⟨.primary, 0x76⟩, ⟨.cb, 0x00⟩] } } fun t =>
    t.fault = some ⟨.cb, 0x00, 0x0100⟩ ∧ t.pc = 0x0102 := by decide

/-- X10: CB at 0xFFFF takes its second byte from 0x0000 (47_system.md rule R405) -/
theorem test_X10 :
  after { start with pc := 0xFFFF, a := 0xF1, rom := [(0x0000, 0x37)], backing := [(0xFFFF, 0xCB)] } fun t =>
    t.a = 0x1F ∧ t.pc = 0x0001 := by decide

/-- I2: IE = 0x1E: bit 1 (LCD STAT) to 0x0048 (60_exceptions.md rules R501, R503) -/
theorem test_I2 :
  after { start with ime := true, backing := [(0xFF0F, 0x1F), (0xFFFF, 0x1E)] } fun t =>
    t.pc = 0x0048 ∧ t.direct 0xFF0F = 0x1D := by decide

/-- I5: IF bits 7:5 are not requests (60_exceptions.md rule R502) -/
theorem test_I5 :
  after { start with ime := true, backing := [(0xFF0F, 0xE0), (0xFFFF, 0xFF)] } fun t =>
    t.pc = 0x0101 ∧ t.ime = true := by decide

/-- I7: dispatch with SP = 0x0001 writes PC low byte to IE (60_exceptions.md rule R504) -/
theorem test_I7 :
  after { start with pc := 0x0234, sp := 0x0001, ime := true, backing := [(0xFF0F, 0x01), (0xFFFF, 0x01)] } fun t =>
    t.pc = 0x0040 ∧ t.sp = 0xFFFF ∧ t.direct 0xFFFF = 0x34 ∧ t.direct 0xFF0F = 0x00 := by decide

/-! ## A witness for the hypotheses of each statement -/

/-- The reset state with the PPU to move, in a mode on a line. -/
def ppuAt (m : PpuMode) (n : Nat) : State := { State.reset with sched := [.ppu], mode := m, line := n }

/-- The parameters with HALT and DAA admitted. -/
def admitting : Config := { Config.default with withheld := [⟨.primary, 0x10⟩] }

theorem test_DecodeOfEncode_witness :
    (Instr.ld_hl_d16 0xFFFF).wellFormed = true ∧ (Instr.set_7_a).wellFormed = true := by decide

theorem test_EncodeOfDecode_witness : decode [0xCB, 0x37, 0x99] = .ok (.swap_a, [0x99]) := rfl

theorem test_LengthFromFirstByte_witness :
    lengthByFirst 0x21 ≤ [0x00, 0x00].length + 1 ∧ [0x00].length + 1 < lengthByFirst 0x21 := by decide

theorem test_AdmissionClasses_witness :
    (Opcode.mk .primary 0xAF).cls = .named ∧ (Opcode.mk .primary 0xD3).cls = .hole ∧
    (Opcode.mk .primary 0x27).cls = .extra ∧ (Opcode.mk .cb 0x06).cls = .extra := by decide

/-- INC B at PC. -/
def atIncB : State := { start with rom := [(0x0100, 0x04)] }

theorem test_StepRunsDecodedInstruction_witness :
    atIncB.fault = none ∧ atIncB.nextAgent = .cpu ∧ atIncB.noDispatch ∧ atIncB.asleep = false ∧
    decode atIncB.bytesAtPc = .ok (.inc_b, [0x00, 0x00]) ∧ admits atIncB.cfg Instr.inc_b.opcode = true :=
  ⟨rfl, rfl, .inl rfl, rfl, rfl, rfl⟩

/-- DAA at PC, which the default parameters do not admit. -/
def atDaa : State := { start with rom := [(0x0100, 0x27)] }

theorem test_UnadmittedOpcodeFaults_witness :
    atDaa.fault = none ∧ atDaa.nextAgent = .cpu ∧ atDaa.noDispatch ∧ atDaa.asleep = false ∧
    decode atDaa.bytesAtPc = .ok (.daa, [0x00, 0x00]) ∧ admits atDaa.cfg Instr.daa.opcode = false :=
  ⟨rfl, rfl, .inl rfl, rfl, rfl, rfl⟩

/-- RLC B at PC, withheld. -/
def atRlcB : State :=
  { start with rom := [(0x0100, 0xCB)], cfg := { Config.default with withheld := [⟨.cb, 0x00⟩] } }

theorem test_UnadmittedOpcodeFaults_witness_cb :
    atRlcB.fault = none ∧ atRlcB.nextAgent = .cpu ∧ atRlcB.noDispatch ∧ atRlcB.asleep = false ∧
    decode atRlcB.bytesAtPc = .ok (.rlc_b, [0x00]) ∧ admits atRlcB.cfg Instr.rlc_b.opcode = false :=
  ⟨rfl, rfl, .inl rfl, rfl, rfl, rfl⟩

theorem test_StepAnswers_witness :
    start.fault = none ∧
    ({ start with fault := some ⟨.primary, 0x27, 0x0100⟩ } : State).fault = some ⟨.primary, 0x27, 0x0100⟩ := by decide

theorem test_EveryInstructionCompletes_witness :
    neverAdmitted .halt = false ∧ neverAdmitted (.prefix_cb 0x00) = false := by decide

theorem test_HolesAndStopFault_witness : neverAdmitted .hole_fd = true ∧ neverAdmitted (.stop 0x00) = true := by decide

/-- Every source requested and enabled, IME set; only the joypad requested. -/
def allPending : State := { start with ime := true, backing := [(0xFF0F, 0x1F), (0xFFFF, 0x1F)] }
def joypadPending : State := { start with ime := true, backing := [(0xFF0F, 0x10), (0xFFFF, 0x1F)] }

theorem test_InterruptDispatch_witness :
    allPending.fault = none ∧ allPending.nextAgent = .cpu ∧ allPending.ime = true ∧ allPending.isPending 0 = true ∧
    joypadPending.fault = none ∧ joypadPending.nextAgent = .cpu ∧ joypadPending.ime = true ∧
    joypadPending.isPending 4 = true ∧ ∀ j, j < 4 → joypadPending.isPending j = false := by decide

/-- NOP at PC, EIP set, a source pending. -/
def eiPending : State := { start with eip := true, backing := [(0xFF0F, 0x01), (0xFFFF, 0x01)] }

theorem test_EiCommit_witness :
    eiPending.fault = none ∧ eiPending.nextAgent = .cpu ∧ eiPending.noDispatch ∧ eiPending.eip = true ∧
    eiPending.asleep = false ∧ decode eiPending.bytesAtPc = .ok (.nop, [0x00, 0x00]) ∧
    admits eiPending.cfg Instr.nop.opcode = true := ⟨rfl, rfl, .inl rfl, rfl, rfl, rfl, rfl⟩

/-- EI, DI at PC and two CPU steps queued. -/
def atEiDi : State := { start with sched := [.cpu, .cpu], rom := [(0x0100, 0xFB), (0x0101, 0xF3)] }

theorem test_EiThenDi_witness :
    atEiDi.fault = none ∧ atEiDi.sched = [.cpu, .cpu] ∧ atEiDi.ime = false ∧ atEiDi.asleep = false ∧
    atEiDi.read atEiDi.pc = 0xFB ∧ atEiDi.read (atEiDi.pc + 1) = 0xF3 ∧ atEiDi.eip = false := by decide

theorem test_ImeAndEipChanges_witness_commit :
    eiPending.ime = false ∧ eiPending.eip = true ∧ after eiPending fun t => t.ime = true ∧ t.eip = false := by decide

theorem test_ImeAndEipChanges_witness_di :
    after { start with rom := [(0x0100, 0xF3)], ime := true } fun t => t.ime = false := by decide

theorem test_ImeAndEipChanges_witness_ei : after atEiDi fun t => t.eip = true := by decide

/-- HALTED, nothing pending; HALTED with IME clear and a source pending. -/
def sleeping : State := { start with halted := true, cfg := admitting }
def waking : State := { sleeping with backing := [(0xFF0F, 0x01), (0xFFFF, 0x01)] }

theorem test_HaltedCpu_witness :
    sleeping.fault = none ∧ sleeping.nextAgent = .cpu ∧ sleeping.asleep = true ∧ sleeping.noDispatch ∧
    sleeping.direct 0xFF0F &&& sleeping.direct 0xFFFF &&& 0x1F = 0 := ⟨rfl, rfl, rfl, .inl rfl, rfl⟩

theorem test_HaltedCpu_witness_wake :
    waking.fault = none ∧ waking.nextAgent = .cpu ∧ waking.asleep = true ∧ waking.noDispatch ∧
    waking.direct 0xFF0F &&& waking.direct 0xFFFF &&& 0x1F ≠ 0 ∧
    decode waking.bytesAtPc = .ok (.nop, [0x00, 0x00]) ∧ admits waking.cfg Instr.nop.opcode = true :=
  ⟨rfl, rfl, rfl, .inl rfl, by decide, rfl, rfl⟩

/-- HALTED with IME clear and a source pending, at a hole. -/
def wakingAtHole : State := { waking with rom := [(0x0100, 0xD3)] }

theorem test_UnadmittedOpcodeFaults_witness_wake :
    wakingAtHole.fault = none ∧ wakingAtHole.nextAgent = .cpu ∧ wakingAtHole.noDispatch ∧ wakingAtHole.asleep = true ∧
    wakingAtHole.direct 0xFF0F &&& wakingAtHole.direct 0xFFFF &&& 0x1F ≠ 0 ∧
    decode wakingAtHole.bytesAtPc = .ok (.hole_d3, [0x00, 0x00]) ∧
    admits wakingAtHole.cfg Instr.hole_d3.opcode = false :=
  ⟨rfl, rfl, .inl rfl, rfl, by decide, rfl, rfl⟩

/-- EIP set at an opcode that is not admitted. -/
theorem test_UnadmittedOpcodeFaults_witness_eip :
    let s : State := { atDaa with eip := true }
    s.fault = none ∧ s.nextAgent = .cpu ∧ s.noDispatch ∧ s.asleep = false ∧
    decode s.bytesAtPc = .ok (.daa, [0x00, 0x00]) ∧ admits s.cfg Instr.daa.opcode = false :=
  ⟨rfl, rfl, .inl rfl, rfl, rfl, rfl⟩

theorem test_CpuStepLeavesPpu_witness : start.nextAgent = .cpu ∧ after start fun _ => True := by decide

theorem test_PpuStepLeavesCpu_witness :
    (ppuAt .oamSearch 0).fault = none ∧ (ppuAt .oamSearch 0).nextAgent = .ppu := by decide

/-- The six transitions, each at the last line it takes (R521). -/
theorem test_PpuTransitions_witness :
    (after (ppuAt .oamSearch 143) fun t => t.mode = .pixelTransfer ∧ t.line = 143 ∧ t.returned = some 172) ∧
    (after (ppuAt .pixelTransfer 143) fun t => t.mode = .hBlank ∧ t.line = 144 ∧ t.returned = some 204) ∧
    (after (ppuAt .hBlank 143) fun t => t.mode = .oamSearch ∧ t.line = 143 ∧ t.returned = some 80) ∧
    (after (ppuAt .hBlank 144) fun t => t.mode = .vBlank ∧ t.line = 144 ∧ t.direct 0xFF0F = 0x01) ∧
    (after (ppuAt .vBlank 152) fun t => t.mode = .vBlank ∧ t.line = 153 ∧ t.direct 0xFF44 = 153) ∧
    (after (ppuAt .vBlank 153) fun t => t.mode = .oamSearch ∧ t.line = 0 ∧ t.returned = some 80) := by decide

/-- The three clauses, IF with other bits set. -/
theorem test_VBlankRequest_witness :
    (after { ppuAt .hBlank 144 with backing := [(0xFF0F, 0x1E)] } fun t => t.direct 0xFF0F = 0x1F) ∧
    (after { ppuAt .vBlank 152 with backing := [(0xFF0F, 0x1F)] } fun t => t.direct 0xFF0F = 0x1F) ∧
    (after { ppuAt .vBlank 153 with backing := [(0xFF0F, 0x1F)] } fun t => t.direct 0xFF0F = 0x1E) := by decide

theorem test_LyMirrorsLine_witness :
    let s : State := { ppuAt .vBlank 152 with backing := [(0xFF44, 152)] }
    s.lineOk ∧ s.nextAgent = .ppu ∧ (after s fun t => t.line = 153) ∧ s.direct 0xFF44 = BitVec.ofNat 8 s.line :=
  ⟨⟨by decide, by decide⟩, rfl, by decide, rfl⟩

theorem test_PpuFrame_witness : State.reset.mode = .oamSearch ∧ State.reset.line = 0 := by decide

/-! A weakly fair run that never faults: the agents take turns, the CPU in the loop `JR -2` (46_control.md R374). -/

/-- The CPU on even steps, the PPU on odd ones. -/
def takingTurns (n : Nat) : Agent := if n % 2 = 0 then .cpu else .ppu

theorem takingTurns_fair : WeaklyFair takingTurns := by
  rintro ⟨⟩ k
  · exact ⟨2 * k, by omega, by simp [takingTurns]⟩
  · exact ⟨2 * k + 1, by omega, by simp [takingTurns]⟩

/-- `JR -2` at PC in ROM, interrupts off. -/
structure InLoop (s : State) : Prop where
  fault  : s.fault = none
  ime    : s.ime = false
  eip    : s.eip = false
  halted : s.halted = false
  pc     : s.pc = 0x0100
  rom    : s.rom = [(0x0100, 0x18), (0x0101, 0xFE)]
  mapper : s.mapper = .romOnly
  cfg    : s.cfg = Config.default

def looping : State := { State.reset with rom := [(0x0100, 0x18), (0x0101, 0xFE)] }

theorem looping_inLoop : InLoop looping := ⟨rfl, rfl, rfl, rfl, rfl, rfl, rfl, rfl⟩

theorem InLoop.cpuStep {s t : State} (h : InLoop s) (ht : s.cpuStep = .next t) : InLoop t := by
  obtain ⟨h1, h2, h3, h4, h5, h6, h7, h8⟩ := h
  have hr : ∀ a : Word, a.toNat ≤ 0x7FFF → s.read a = Memory.get .rom [(0x0100, 0x18), (0x0101, 0xFE)] a.toNat := by
    intro a ha
    simp [State.read, ha, State.mapperRead, State.romOffset, h6, h7]
  have hi : s.fetched = .jr_r8 0xFE := by
    unfold State.fetched
    rw [h5, hr _ (by decide), hr _ (by decide), hr _ (by decide)]
    rfl
  have hd : s.dispatchable = none := by simp [State.dispatchable, h2]
  have hc : s.commitEi = s := by simp [State.commitEi, h3]
  have hz : s.asleep = false := by simp [State.asleep, h4]
  unfold State.cpuStep State.wakeExecute State.fetchExecute at ht
  rw [hd] at ht
  simp only [hc, hz, hi, h8] at ht
  have ht := (Host.Outcome.next.inj ht).symm
  subst ht
  refine ⟨h1, h2, h3, h4, ?_, h6, h7, h8⟩
  show s.pc + 2 + sext16 0xFE = 0x0100
  rw [h5]
  rfl

theorem InLoop.ppuStep {s : State} (h : InLoop s) : InLoop s.ppuStep := by
  obtain ⟨-, ⟨-, -, hp⟩, ⟨h1, h2, h3, h4⟩, h5, -, -, h6, h7, -, -⟩ := s.ppuStep_frame
  exact ⟨h4.trans h.fault, h1.trans h.ime, h2.trans h.eip, h3.trans h.halted, hp.trans h.pc, h5.trans h.rom,
    h6.trans h.mapper, h7.trans h.cfg⟩

theorem runFrom_inLoop (n : Nat) : InLoop (runFrom takingTurns looping n) := by
  induction n with
  | zero => exact looping_inLoop
  | succ n ih =>
    have hr := runFrom_isRun takingTurns looping
    cases hw : takingTurns n with
    | cpu => exact ih.cpuStep (hr.cpu ih.fault hw)
    | ppu =>
      rw [hr.ppu ih.fault hw]
      exact ih.ppuStep

theorem test_PpuFrame_witness_fair :
    IsRun takingTurns (runFrom takingTurns looping) ∧ WeaklyFair takingTurns ∧
    (runFrom takingTurns looping 0).lineOk ∧ ∀ n, (runFrom takingTurns looping n).fault = none :=
  ⟨runFrom_isRun _ _, takingTurns_fair, (Nat.zero_le 143 : looping.line ≤ 143), fun n => (runFrom_inLoop n).fault⟩

theorem test_StepKeepsInvariant_witness : atIncB.Inv ∧ after atIncB fun t => t.b = 0x01 :=
  ⟨⟨by decide, by decide, by decide, (Nat.le_of_ble_eq_true rfl : 0 ≤ 143), trivial, by decide, by decide⟩, by decide⟩

/-- The load vectors LD1 to LD5 of 95_test_vectors.md, and flags that are refused (10_state.md R42). -/
theorem test_Launch_witness_accepted :
    (launch LaunchParams.default).toOption.map (fun s => s.mapper) = some .romOnly ∧
    (launch { LaunchParams.default with romBytes := 0x10000, rom := [(0x0147, 0x01)] }).toOption.map
      (fun s => (s.mapper, s.romBanks)) = some (.mbc1 ⟨1, 0, .rom, false⟩, 4) := by decide

/-- HALTED by RESET_CPU, with HALT and without (log entry 25); STAT[7:3] of INIT_MEM; a byte of the image and of the RAM
image. -/
theorem test_Launch_witness_parameters :
    (launch { LaunchParams.default with cfg := admitting, cpu := { ResetCpu.default with halted := true } }).toOption.map
      (fun s => s.halted) = some true ∧
    (launch { LaunchParams.default with cpu := { ResetCpu.default with halted := true } }).toOption.map
      (fun s => s.halted) = some false ∧
    (launch { LaunchParams.default with initMem := [(0xFF41, 0xFF)], rom := [(0x7FFF, 0x12)], initRam := [(0, 0x34)] }).toOption.map
      (fun s => (s.direct 0xFF41, s.read 0x7FFF, s.cartRam)) = some (0xFA, 0x12, [(0, 0x34)]) := by decide

theorem test_Launch_witness_refused :
    launch { LaunchParams.default with romBytes := 0x4000 } = .error (.romLength 0x4000) ∧
    launch { LaunchParams.default with romBytes := 0xA000, rom := [(0x0147, 0x01)] } = .error (.romLength 0xA000) ∧
    launch { LaunchParams.default with rom := [(0x0147, 0x03)] } = .error (.mapperByte 0x03) ∧
    launch { LaunchParams.default with cpu := { ResetCpu.default with f := 0x01 } } = .error (.resetFlags 0x01) :=
  ⟨rfl, rfl, rfl, rfl⟩

theorem test_FixedForTheRun_witness : after { start with rom := [(0x0100, 0x77)], h := 0x20 } fun t => t.rom = [(0x0100, 0x77)] := by
  decide

/-- The two ends of the echo region. -/
theorem test_EchoAlias_witness :
    (State.reset.write 0xE000 0x5A).read 0xC000 = 0x5A ∧ (State.reset.write 0xDDFF 0x5A).read 0xFDFF = 0x5A ∧
    0x1DFF ≤ 0x1DFF := by decide

/-- An MBC1 cartridge of four banks, RAM enabled. -/
def mbc1Cart : State := { State.reset with mapper := .mbc1 ⟨1, 0, .rom, true⟩, romBanks := 4 }

/-- Both ends of each control range, by the values of 20_memory.md R71 to R74. -/
theorem test_Mbc1Controls_witness :
    (mbc1Cart.write 0x1FFF 0x1A).mapper = .mbc1 ⟨1, 0, .rom, true⟩ ∧
    (mbc1Cart.write 0x0000 0x0B).mapper = .mbc1 ⟨1, 0, .rom, false⟩ ∧
    (mbc1Cart.write 0x2000 0x20).mapper = .mbc1 ⟨1, 0, .rom, true⟩ ∧
    (mbc1Cart.write 0x3FFF 0xFF).mapper = .mbc1 ⟨31, 0, .rom, true⟩ ∧
    (mbc1Cart.write 0x4000 0x07).mapper = .mbc1 ⟨1, 3, .rom, true⟩ ∧
    (mbc1Cart.write 0x5FFF 0x02).mapper = .mbc1 ⟨1, 2, .rom, true⟩ ∧
    (mbc1Cart.write 0x6000 0x01).mapper = .mbc1 ⟨1, 0, .ram, true⟩ ∧
    (mbc1Cart.write 0x7FFF 0xFE).mapper = .mbc1 ⟨1, 0, .rom, true⟩ := by decide

/-- Each clause at a boundary: RomOnly, then MBC1 with bank 3, RAM enabled, disabled and absent (R69 to R77). -/
theorem test_CartridgeBanks_witness :
    { State.reset with rom := [(0x7FFF, 0xB2)] }.read 0x7FFF = 0xB2 ∧
    (State.reset.write 0xBFFF 0x5E).read 0xBFFF = 0x5E ∧
    ({ mbc1Cart.write 0x2000 0x07 with rom := [(0x3FFF, 0xA0), (0xC000, 0xB3)] } : State).read 0x3FFF = 0xA0 ∧
    ({ mbc1Cart.write 0x2000 0x07 with rom := [(0x3FFF, 0xA0), (0xC000, 0xB3)] } : State).read 0x4000 = 0xB3 ∧
    (mbc1Cart.write 0xA000 0x12).read 0xA000 = 0x12 ∧
    ((mbc1Cart.write 0x0000 0x00).write 0xA000 0x12).read 0xA000 = 0xFF ∧
    ({ mbc1Cart with cfg := { Config.default with ramBanks := .zero } }.write 0xBFFF 0x12).read 0xBFFF = 0xFF := by decide

theorem test_ReadAfterWrite_witness :
    plain 0x8000 = true ∧ plain (0x9FFE + 1) = true ∧ plain 0x9FFE = true ∧ plain 0xFFFF = true ∧
    canonical 0xE000 = 0xC000 ∧ canonical 0xFDFF = 0xDDFF ∧ canonical 0xFE00 = 0xFE00 ∧
    (State.reset.write 0xFEA0 0x12).read 0xFEA0 = 0xFF ∧ (State.reset.write 0xFEFF 0x12).direct 0xFEFF = 0x12 := by decide

theorem test_PairLoads_witness : Pair.hl ≠ .sp := by decide

theorem test_PushAndPop_witness : StackPair.hl ≠ .af := by decide

theorem test_PushThenPop_witness :
    let s : State := { State.reset with sp := 0xDFF0 }
    plain (s.sp - 1) = true ∧ plain (s.sp - 2) = true ∧ s.flagsClean := by decide

theorem test_AndXorOr_witness :
    AluSrc.operand (.reg .a) = .operand (.reg .a) ∧ after { start with a := 0xFF, rom := [(0x0100, 0xAF)] } fun t =>
      t.a = 0x00 ∧ t.flagZ = true := by decide

theorem test_DaaCplScfCcf_witness : State.reset.flagN = false ∧ { State.reset with f := 0x40 }.flagN = true := by decide

theorem test_DaaCorrectsBcd_witness :
    let s : State := { State.reset with a := 0x99 }
    isBcd s.a = true ∧ isBcd (s.aluSrc (.imm 0x99)) = true ∧ s.cfg.hsubSub = .borrow ∧ s.cfg.hsubSbc = .borrow := by decide

theorem test_IncAndDecPair_witness : Pair.bc ≠ .sp := by decide

theorem test_CallsAndReturns_witness : State.reset.cond .z = true ∧ State.reset.cond .nz = false := by decide

theorem test_ReturnFromInterrupt_witness :
    State.reset.cfg.retiMode = .immediate ∧
    { Config.default with retiMode := .delayed }.retiMode = RetiMode.delayed := by decide

/-- `exec` answers the next state `exec_eq_post` gives for every instruction; here one of each frame's clauses. -/
theorem test_FrameRegisters_witness :
    exec .inc_b State.reset = .next ((shapeOf .inc_b).post State.reset) ∧ Reg8.a ∉ destRegs .inc_b :=
  ⟨exec_eq_post _ _, by decide⟩

theorem test_FrameFlags_witness :
    State.reset.flagsClean ∧ exec .inc_b State.reset = .next ((shapeOf .inc_b).post State.reset) ∧ flagMask .inc_b = 0xE0 :=
  ⟨by decide, exec_eq_post _ _, by decide⟩

theorem test_FramePointers_witness :
    exec .inc_b State.reset = .next ((shapeOf .inc_b).post State.reset) ∧ writesSp .inc_b = false ∧
    writesPc .inc_b = false ∧ writesSp .reti = true ∧ writesPc .rst_38 = true :=
  ⟨exec_eq_post _ _, by decide, by decide, by decide, by decide⟩

theorem test_FrameControl_witness :
    exec .inc_b State.reset = .next ((shapeOf .inc_b).post State.reset) ∧ Instr.inc_b ≠ .di ∧ Instr.inc_b ≠ .reti ∧
    Instr.inc_b ≠ .ei ∧ Instr.inc_b ≠ .halt ∧ neverAdmitted .inc_b = false :=
  ⟨exec_eq_post _ _, by decide, by decide, by decide, by decide, by decide⟩

/-- Nothing stored; a store to the last byte, to the first byte above the ROM, and to the last ROM address. -/
theorem test_FrameMemory_witness :
    storedTo .inc_b State.reset = [] ∧ storedTo (.ld_at_a16_a 0xFFFF) State.reset = [0xFFFF] ∧
    storedTo (.ld_at_a16_a 0x8000) State.reset = [0x8000] ∧ storedTo (.ld_at_a16_a 0x7FFF) State.reset = [0x7FFF] ∧
    storedTo (.call_nz_a16 0x1234) State.reset = [] ∧ storedTo .push_bc State.reset = [0xFFFD, 0xFFFC] := by decide

end Sys2Proof.Tests
end

section
/-! SUPPORT. The memory statements: an echo address is its work RAM address (20_memory.md R65), and IF and STAT (R67, R68). -/

namespace Sys2Proof.Machine

/-! ## The echo region -/

theorem plain_of_workRam (a : Word) (h1 : 0xC000 ≤ a.toNat) (h2 : a.toNat ≤ 0xDFFF) : plain a = true := by
  simp [plain, h1, h2]

/-- What an echo address stands for is work RAM, which is plain. -/
theorem plain_sub_echo (a : Word) (h : isEcho a = true) : plain (a - 0x2000) = true := by
  obtain ⟨h1, h2⟩ := (isEcho_iff a).mp h
  have hn := toNat_sub_echo a h
  exact plain_of_workRam _ (by omega) (by omega)

/-- A read at an echo address is a read at its work RAM address. -/
theorem State.read_echo (s : State) (a : Word) (h : isEcho a = true) : s.read a = s.read (a - 0x2000) := by
  obtain ⟨h1, h2⟩ := (isEcho_iff a).mp h
  rw [s.read_of_direct _ (plain_sub_echo a h), State.read, if_neg (by omega), if_neg (by omega), if_pos h]

/-- A write at an echo address is a write at its work RAM address. -/
theorem State.write_echo (s : State) (a : Word) (v : Byte) (h : isEcho a = true) :
    s.write a v = s.write (a - 0x2000) v := by
  obtain ⟨h1, h2⟩ := (isEcho_iff a).mp h
  rw [s.write_of_plain _ v (plain_sub_echo a h), State.write, if_neg (by omega), if_neg (by omega), if_pos h]

/-- A plain address reads back what was written there. -/
theorem State.read_write_plain (s : State) (a : Word) (v : Byte) (h : plain a = true) : (s.write a v).read a = v := by
  rw [s.write_of_plain a v h, State.read_of_direct _ a h, State.direct_setDirect_same]

theorem isEcho_ofNat (x : Nat) (h : x ≤ 0x1DFF) : isEcho (BitVec.ofNat 16 (0xE000 + x)) = true := by
  rw [isEcho_iff, BitVec.toNat_ofNat, Nat.mod_eq_of_lt (by omega)]
  omega

theorem ofNat_echo_sub (x : Nat) : BitVec.ofNat 16 (0xE000 + x) - 0x2000 = BitVec.ofNat 16 (0xC000 + x) := by
  bv_omega

/-- Settles O26: an echo access is the access at its work RAM address, and work RAM reads back what was written. -/
theorem echoAlias : Obligations.EchoAlias := by
  unfold Obligations.EchoAlias
  intro s x v hx
  have he := isEcho_ofNat x hx
  have hp := plain_sub_echo _ he
  have hr := fun t : State => t.read_echo _ he
  have hw := s.write_echo _ v he
  rw [ofNat_echo_sub] at hp hr hw
  refine ⟨hr s, ?_, ?_⟩
  · rw [hw, s.read_write_plain _ v hp]
  · rw [hr, s.read_write_plain _ v hp]

/-! ## IF and STAT -/

theorem State.read_if (s : State) : s.read 0xFF0F = s.direct 0xFF0F ||| 0xE0 := by simp [State.read, isEcho]

theorem State.write_if (s : State) (v : Byte) : s.write 0xFF0F v = s.setDirect 0xFF0F v := by
  simp [State.write, isEcho]

theorem State.read_stat (s : State) : s.read 0xFF41 = s.direct 0xFF41 := by simp [State.read, isEcho]

theorem State.write_stat (s : State) (v : Byte) :
    s.write 0xFF41 v = s.setDirect 0xFF41 ((s.direct 0xFF41 &&& 0x07) ||| (v &&& 0xF8)) := by
  simp [State.write, isEcho]

/-- The masks of a STAT write: the low three bits of the old byte, the others of the new one. -/
theorem getLsbD_statMask (old new : Byte) (k : Nat) :
    ((old &&& 0x07) ||| (new &&& 0xF8)).getLsbD k = if k < 3 then old.getLsbD k else new.getLsbD k := by
  by_cases hk : k < 8
  · interval_cases k <;> simp
  · have h8 : 8 ≤ k := by omega
    have h3 : ¬k < 3 := by omega
    simp [h3, BitVec.getLsbD_of_ge _ _ h8]

/-- Settles O27: the router's cases at the two addresses, and the masks of a STAT write bit by bit. -/
theorem ifAndStat : Obligations.IfAndStat := by
  unfold Obligations.IfAndStat
  intro s v
  refine ⟨s.read_if, ?_, s.read_stat, fun k => ?_⟩
  · rw [State.write_if, State.direct_setDirect_same]
  · rw [State.write_stat, State.direct_setDirect_same, getLsbD_statMask]

end Sys2Proof.Machine
end

section
/-! SUPPORT. The 8-bit loads (40_load8.md): a load of a register and a store of a byte, each with the frame of its one write. -/

namespace Sys2Proof.Machine

/-- The rule of a load (R200, R202): a shape that only sets a register completes and leaves everything else alone. -/
theorem completes_of_setReg {i : Instr} {s : State} {dst : Reg8} {v : Byte} {k : Nat}
    (h : (shapeOf i).post s = (s.setReg dst v).count k) :
    completes i s (fun t => t.reg dst = v ∧ sameFSpPc s t ∧ changesOnly s t [dst] []) :=
  ⟨_, k, by rw [exec_eq_post, h], rfl, by simp, by simp [sameFSpPc], (changesOnly_setReg s dst v).count k⟩

/-- The rule of a store (R203): a shape that only writes a byte through the router completes and leaves everything else
alone. -/
theorem completes_of_write {i : Instr} {s : State} {a : Word} {v : Byte} {k : Nat}
    (h : (shapeOf i).post s = (s.write a v).count k) :
    completes i s (fun t => sameFSpPc s t ∧ changesOnly s t [] [(a, v)]) :=
  ⟨_, k, by rw [exec_eq_post, h], rfl, by simp [sameFSpPc], (changesOnly_write s a v).count k⟩

/-- Settles O31: each form by its shape. The three loads set one register and the two stores write one byte, at HL as it
was before. -/
theorem loadRegisterAndAtHl : Obligations.LoadRegisterAndAtHl := by
  unfold Obligations.LoadRegisterAndAtHl
  intro dst r n s
  refine ⟨⟨encode_ld_reg_reg dst r, cls_ld_reg_reg dst r⟩, ?regReg, ⟨encode_ldImm_reg dst n, cls_ldImm_reg dst n⟩, ?regImm,
    ⟨encode_ld_reg_atHl dst, cls_ld_reg_atHl dst⟩, ?regAtHl, ⟨encode_ld_atHl_reg r, cls_ld_atHl_reg r⟩, ?atHlReg,
    ⟨rfl, rfl⟩, ?atHlImm⟩
  case regReg => exact completes_of_setReg (by rw [shapeOf_ld_reg_reg, Shape.post])
  case regImm => exact completes_of_setReg (by rw [shapeOf_ldImm_reg, Shape.post])
  case regAtHl => exact completes_of_setReg (by rw [shapeOf_ld_reg_atHl, Shape.post])
  case atHlReg => exact completes_of_write (by rw [shapeOf_ld_atHl_reg, Shape.post])
  case atHlImm => exact completes_of_write (i := .ldImm .atHl n) (k := 12) rfl

end Sys2Proof.Machine
end

section
/-! SUPPORT. The stack instructions (41_load16_stack.md): what a written stack pair leaves alone, and POP AF's flags bit by bit. -/

namespace Sys2Proof.Machine

/-- Of the stack pairs only AF holds F. -/
theorem State.setStackPair_f (s : State) (p : StackPair) (v : Word) (h : p ≠ .af) : (s.setStackPair p v).f = s.f := by
  cases p with
  | af => exact absurd rfl h
  | _ => rfl

theorem State.reg_setStackPair (s : State) (p : StackPair) (v : Word) (r : Reg8) (h : r ∉ stackPairRegs p) :
    (s.setStackPair p v).reg r = s.reg r := by
  cases p <;> cases r <;> simp_all [State.setStackPair, State.reg, stackPairRegs]

/-- A pop changes the registers of its pair; SP and F are said separately (R236). -/
theorem changesOnly_setStackPair_popSp (s : State) (p : StackPair) (v : Word) :
    changesOnly s (s.popSp.setStackPair p v) (stackPairRegs p) [] :=
  ⟨fun r hr => by rw [State.reg_setStackPair _ p v r hr, State.reg_popSp], by simp [sameMemory, State.writes],
    by simp [sameControl], by simp [sameOthers]⟩

/-- A whole byte written to F gives the four flags its upper bits and clears F[3:0] (R23). -/
theorem flagsAre_writeF (s : State) (v : Byte) :
    flagsAre (s.writeF v) (v.getLsbD 7) (v.getLsbD 6) (v.getLsbD 5) (v.getLsbD 4) := by
  refine ⟨?_, ?_, ?_, ?_, writeF_clean v⟩ <;> simp [State.flagZ, State.flagN, State.flagH, State.flagC]

/-- PUSH (R235): the two stores of `Push16`, SP two lower, everything else as before. -/
theorem completes_push (p : StackPair) (s : State) :
    completes (.push p) s (fun t => t.sp = s.sp - 2 ∧ t.f = s.f ∧ t.pc = s.pc ∧
      changesOnly s t [] (pushes s (s.stackPair p))) := by
  refine ⟨(s.push16 (s.stackPair p)).count 16, 16, ?_, rfl, by simp, by simp, by simp,
    (changesOnly_push16 s _).count 16⟩
  rw [exec_eq_post, shapeOf_push, Shape.post]

theorem exec_pop_eq (p : StackPair) (s : State) :
    exec (.pop p) s = .next ((s.popSp.setStackPair p s.popValue).count 12) := by
  rw [exec_eq_post, shapeOf_pop, Shape.post]

/-- POP of BC, DE or HL (R236): the pair holds the popped word and F is as before. -/
theorem completes_pop (p : StackPair) (s : State) (h : p ≠ .af) :
    completes (.pop p) s (fun t => t.stackPair p = poppedWord s ∧ t.sp = s.sp + 2 ∧ t.f = s.f ∧ t.pc = s.pc ∧
      changesOnly s t (stackPairRegs p) []) := by
  refine ⟨_, 12, exec_pop_eq p s, rfl, ?_, by simp, ?_, by simp, (changesOnly_setStackPair_popSp s p _).count 12⟩
  · rw [State.stackPair_count, State.stackPair_setStackPair _ _ _ h, poppedWord_eq]
  · rw [State.count_f, State.setStackPair_f _ _ _ h, State.popSp_f]

/-- POP AF (R237): the low byte of the popped word is written to F under R23. -/
theorem completes_pop_af (s : State) :
    completes (.pop .af) s (fun t => t.a = s.read (s.sp + 1) ∧
      flagsAre t ((s.read s.sp).getLsbD 7) ((s.read s.sp).getLsbD 6) ((s.read s.sp).getLsbD 5) ((s.read s.sp).getLsbD 4) ∧
      t.sp = s.sp + 2 ∧ t.pc = s.pc ∧ changesOnly s t [.a] []) := by
  have hlo : loByte s.popValue = s.read s.sp := loByte_join _ _
  refine ⟨_, 12, exec_pop_eq .af s, rfl, hiByte_join _ _, ?_, by simp, by simp,
    (changesOnly_setStackPair_popSp s .af _).count 12⟩
  rw [← hlo]
  exact flagsAre_count 12 (flagsAre_writeF _ _)

/-- Settles O36: PUSH by the frame of `Push16`, POP by the frame of the pair it writes, POP AF by the mask of F. -/
theorem pushAndPop : Obligations.PushAndPop := by
  unfold Obligations.PushAndPop
  intro p s
  exact ⟨⟨encode_push p, cls_push p⟩, completes_push p s, ⟨encode_pop p, cls_pop p⟩, completes_pop p s,
    completes_pop_af s⟩

end Sys2Proof.Machine
end

section
/-! SUPPORT. The eight ALU operations (42_alu8.md R263 to R271): one rule for what all of them do, and the output of each in
arithmetic. -/

namespace Sys2Proof.Machine

/-! ## What every ALU instruction does -/

theorem completes.mono {i : Instr} {s : State} {P Q : State → Prop} (h : completes i s P) (hpq : ∀ t, P t → Q t) :
    completes i s Q := by
  obtain ⟨t, n, hexec, hret, hp⟩ := h
  exact ⟨t, n, hexec, hret, hpq t hp⟩

/-- A register that may differ and does not is one that is left alone. -/
theorem changesOnly.of_reg_eq {s t : State} {dst : Reg8} {ws : List (Word × Byte)} (h : changesOnly s t [dst] ws)
    (hdst : t.reg dst = s.reg dst) : changesOnly s t [] ws := by
  obtain ⟨hreg, hrest⟩ := h
  refine ⟨fun r _ => ?_, hrest⟩
  by_cases hr : r = dst
  · rw [hr, hdst]
  · exact hreg r (by simpa using hr)

/-- The rule of an ALU instruction (R263): the operation's result in A, its flags in F, everything else as before. -/
theorem completes_alu {op : AluOp} {src : AluSrc} {s : State} {res : Byte} {z n h c : Bool}
    (hout : aluOut s.cfg op s.a (s.aluSrc src) s.flagC = ⟨res, z, n, h, c⟩) :
    completes (aluInstr op src) s (fun t =>
      t.a = res ∧ flagsAre t z n h c ∧ t.sp = s.sp ∧ t.pc = s.pc ∧ changesOnly s t [.a] []) := by
  refine ⟨_, src.cycles, exec_eq_post _ _, ?_⟩
  rw [shapeOf_aluInstr, Shape.post, hout]
  exact ⟨rfl, by simp, flagsAre_count _ (flagsAre_writeOut s (.reg .a) ⟨res, z, n, h, c⟩), by simp, by simp,
    (leaves_writeOut s (.reg .a) ⟨res, z, n, h, c⟩).2.count _⟩

/-- The same where Z says whether the result is 0, as all the operations but CP have it: Z then speaks of the new A. -/
theorem completes_alu_result {op : AluOp} {src : AluSrc} {s : State} {res : Byte} {n h c : Bool}
    (hout : aluOut s.cfg op s.a (s.aluSrc src) s.flagC = ⟨res, decide (res = 0), n, h, c⟩) :
    completes (aluInstr op src) s (fun t =>
      t.a = res ∧ flagsAre t (decide (t.a = 0)) n h c ∧ t.sp = s.sp ∧ t.pc = s.pc ∧ changesOnly s t [.a] []) := by
  refine (completes_alu hout).mono ?_
  rintro t ⟨rfl, hrest⟩
  exact ⟨rfl, hrest⟩

/-! ## The output of each operation -/

theorem aluAdc_eq (a v : Byte) (cin : Bool) :
    aluAdc a v cin = ⟨(add8 a v cin).1, decide ((add8 a v cin).1 = 0), false,
      decide (15 < a.toNat % 16 + v.toNat % 16 + cin.toNat), decide (255 < a.toNat + v.toNat + cin.toNat)⟩ := by
  rw [aluAdc, beq_zero_eq, add8_half, add8_carry]

/-- ADD is ADC with no carry (R264). -/
theorem aluAdd_eq (a v : Byte) :
    aluAdd a v = ⟨(add8 a v false).1, decide ((add8 a v false).1 = 0), false,
      decide (15 < a.toNat % 16 + v.toNat % 16), decide (255 < a.toNat + v.toNat)⟩ :=
  aluAdc_eq a v false

theorem aluSbc_eq (cfg : Config) (a v : Byte) (cin : Bool) :
    aluSbc cfg a v cin = ⟨(sub8 a v cin).1, decide ((sub8 a v cin).1 = 0), true,
      decide (a.toNat % 16 < v.toNat % 16 + cin.toNat) == decide (cfg.hsubSbc = .borrow),
      decide (a.toNat < v.toNat + cin.toNat)⟩ := by
  rw [aluSbc, beq_zero_eq, hsub_sub8, sub8_carry]

theorem aluSub_eq (cfg : Config) (a v : Byte) :
    aluSub cfg a v = ⟨(sub8 a v false).1, decide ((sub8 a v false).1 = 0), true,
      decide (a.toNat % 16 < v.toNat % 16) == decide (cfg.hsubSub = .borrow), decide (a.toNat < v.toNat)⟩ := by
  rw [aluSub, beq_zero_eq, hsub_sub8, sub8_carry, Bool.toNat_false, Nat.add_zero, Nat.add_zero]

theorem toNat_sub8_false (a v : Byte) : (sub8 a v false).1.toNat = (a.toNat + 256 - v.toNat) % 256 := by
  rw [toNat_sub8, Bool.toNat_false]
  have := v.isLt
  omega

/-- A difference is 0 exactly of equal operands, so CP's Z compares A with the operand. -/
theorem sub8_false_eq_zero (a v : Byte) : (sub8 a v false).1 = 0 ↔ a = v := by
  have hzero : (0 : Byte).toNat = 0 := rfl
  rw [BitVec.toNat_eq, BitVec.toNat_eq, toNat_sub8_false, hzero]
  have := a.isLt
  have := v.isLt
  omega

theorem aluCp_eq (cfg : Config) (a v : Byte) :
    aluCp cfg a v = ⟨a, decide (a = v), true,
      decide (a.toNat % 16 < v.toNat % 16) == decide (cfg.hsubCp = .borrow), decide (a.toNat < v.toNat)⟩ := by
  rw [aluCp, beq_zero_eq, hsub_sub8, sub8_carry, Bool.toNat_false, Nat.add_zero, Nat.add_zero]
  simp only [sub8_false_eq_zero]

theorem aluAnd_eq (a v : Byte) : aluAnd a v = ⟨a &&& v, decide (a &&& v = 0), false, true, false⟩ := by
  rw [aluAnd, beq_zero_eq]

theorem aluXor_eq (a v : Byte) : aluXor a v = ⟨a ^^^ v, decide (a ^^^ v = 0), false, false, false⟩ := by
  rw [aluXor, beq_zero_eq]

theorem aluOr_eq (a v : Byte) : aluOr a v = ⟨a ||| v, decide (a ||| v = 0), false, false, false⟩ := by
  rw [aluOr, beq_zero_eq]

/-! ## The statements -/

/-- Settles O38: the sum and the two carries of `add8`, ADD being the case without a carry in. -/
theorem addAndAdc : Obligations.AddAndAdc := by
  unfold Obligations.AddAndAdc
  intro src s
  refine ⟨isEncoded_aluInstr .add src, ?add, isEncoded_aluInstr .adc src, ?adc⟩
  case add =>
    refine (completes_alu_result (op := .add) (aluAdd_eq _ _)).mono fun t ⟨ha, hrest⟩ => ⟨?_, hrest⟩
    rw [ha, toNat_add8, Bool.toNat_false, Nat.add_zero]
  case adc =>
    refine (completes_alu_result (op := .adc) (aluAdc_eq _ _ _)).mono fun t ⟨ha, hrest⟩ => ⟨?_, hrest⟩
    rw [ha, toNat_add8]

/-- Settles O39: the difference and the borrow of `sub8`, H by `hsub_sub8`. CP writes A back to itself. -/
theorem subSbcCp : Obligations.SubSbcCp := by
  unfold Obligations.SubSbcCp
  intro src s
  refine ⟨isEncoded_aluInstr .sub src, ?sub, isEncoded_aluInstr .sbc src, ?sbc, isEncoded_aluInstr .cp src, ?cp⟩
  case sub =>
    refine (completes_alu_result (op := .sub) (aluSub_eq _ _ _)).mono fun t ⟨ha, hrest⟩ => ⟨?_, hrest⟩
    rw [ha, toNat_sub8_false]
  case sbc =>
    refine (completes_alu_result (op := .sbc) (aluSbc_eq _ _ _ _)).mono fun t ⟨ha, hrest⟩ => ⟨?_, hrest⟩
    rw [ha, toNat_sub8]
  case cp =>
    exact (completes_alu (op := .cp) (aluCp_eq _ _ _)).mono fun t ⟨ha, hf, hsp, hpc, hch⟩ =>
      ⟨hf, hsp, hpc, hch.of_reg_eq ha⟩

/-- Settles O40: the bits of each result by the library's bit lemmas; XOR A,A by `BitVec.xor_self`. -/
theorem andXorOr : Obligations.AndXorOr := by
  unfold Obligations.AndXorOr
  intro src s
  refine ⟨isEncoded_aluInstr .and src, ?and, isEncoded_aluInstr .xor src, ?xor, isEncoded_aluInstr .or src, ?or⟩
  case and =>
    refine (completes_alu_result (op := .and) (aluAnd_eq _ _)).mono fun t ⟨ha, hrest⟩ => ⟨fun k => ?_, hrest⟩
    rw [ha, BitVec.getLsbD_and]
  case xor =>
    refine (completes_alu_result (op := .xor) (aluXor_eq _ _)).mono fun t ⟨ha, hf, hrest⟩ =>
      ⟨fun k => ?bits, fun hsrc => ?xorA, hf, hrest⟩
    case bits => rw [ha, BitVec.getLsbD_xor, Bool.xor]
    case xorA =>
      have hzero : t.a = 0 := by
        rw [ha, hsrc]
        exact BitVec.xor_self
      exact ⟨hzero, by rw [hf.1, hzero, decide_eq_true rfl]⟩
  case or =>
    refine (completes_alu_result (op := .or) (aluOr_eq _ _)).mono fun t ⟨ha, hrest⟩ => ⟨fun k => ?_, hrest⟩
    rw [ha, BitVec.getLsbD_or]

end Sys2Proof.Machine
end

section
/-! SUPPORT. The rotates of A (44_rotate_shift.md R320 to R323): one rule for what the four of them do; the values and the
bits rotated out are those of Laws/Flags.lean. -/

namespace Sys2Proof.Machine

/-- The rule of a rotate of A: the rotated byte in A, the bit rotated out in C, the other flags clear, everything else as
before. -/
theorem completes_of_rotatedA {i : Instr} {s : State} {r : Byte × Bool} {v : Nat} {c : Bool}
    (hpost : (shapeOf i).post s = (s.rotatedA r).count 4) (hres : r.1.toNat = v) (hout : r.2 = c) :
    completes i s (fun t => t.a.toNat = v ∧ flagsAre t false false false c ∧ t.sp = s.sp ∧ t.pc = s.pc ∧
      changesOnly s t [.a] []) := by
  subst hres hout
  refine ⟨_, 4, by rw [exec_eq_post, hpost], rfl, rfl, ?flags, by simp [State.rotatedA], by simp [State.rotatedA], ?frame⟩
  case flags => exact flagsAre_count 4 (flagsAre_setFlags _ _ _ _ _)
  case frame => exact ((changesOnly_setReg s .a r.1).setFlags _ _ _ _).count 4

/-- Settles O46: each instruction by its shape; the left rotates put bit 7 in C and the right rotates bit 0. -/
theorem accumulatorRotates : Obligations.AccumulatorRotates := by
  unfold Obligations.AccumulatorRotates
  intro s
  refine ⟨⟨rfl, rfl⟩, ?rlca, ⟨rfl, rfl⟩, ?rrca, ⟨rfl, rfl⟩, ?rla, ⟨rfl, rfl⟩, ?rra⟩
  case rlca => exact completes_of_rotatedA (r := rotLc s.a) rfl (rotLc_res _) (getLsbD_7 _)
  case rrca => exact completes_of_rotatedA (r := rotRc s.a) rfl (rotRc_res _) (getLsbD_0 _)
  case rla => exact completes_of_rotatedA (r := rotL s.a s.flagC) rfl (rotL_res _ _) (getLsbD_7 _)
  case rra => exact completes_of_rotatedA (r := rotR s.a s.flagC) rfl (rotR_res _ _) (getLsbD_0 _)

end Sys2Proof.Machine
end

section
/-! SUPPORT. The interrupt dispatch and the EI commit of a CPU step (60_exceptions.md R501 to R505): which source the scan
finds, and the step as `dispatch` of it or as `exec` of the admitted instruction. -/

namespace Sys2Proof.Machine

/-! ## The source a scan finds -/

/-- The vectors stand eight bytes apart from 0x40 on (R501). -/
theorem IntSource.vector_eq (src : IntSource) : src.vector = BitVec.ofNat 16 (0x40 + 8 * src.bit) := by cases src <;> rfl

/-- Bits 0 to 4 are the bits of the five sources (R501). -/
theorem exists_bit_eq (k : Nat) (hk : k < 5) : ∃ src : IntSource, src.bit = k := by
  have hbits : ∀ j (hj : j < intSources.length), intSources[j].bit = j := by decide
  exact ⟨_, hbits k hk⟩

theorem IntSource.bit_lt (src : IntSource) : src.bit < 5 := by cases src <;> decide

/-- A source stands in the priority order after those of lower bits (R501). -/
theorem intSources_split (src : IntSource) :
    intSources = intSources.take src.bit ++ src :: intSources.drop (src.bit + 1) := by cases src <;> rfl

theorem bit_lt_of_mem_take (src : IntSource) : ∀ a ∈ intSources.take src.bit, a.bit < src.bit := by
  cases src <;> decide

/-- Of the five sources `pending` has exactly those requested and enabled (R502). -/
theorem State.pending_bit (s : State) (k : Nat) (hk : k < 5) : s.pending.getLsbD k = s.isPending k := by
  have hmask : ∀ j : Fin 5, (0x1F : Byte).getLsbD j = true := by decide
  rw [State.pending, BitVec.getLsbD_and, hmask ⟨k, hk⟩, Bool.and_true, State.isPending]

/-- The scan finds a pending source below which none is pending (R503). -/
theorem State.firstPending_eq_some {s : State} {src : IntSource} (hpend : s.isPending src.bit = true)
    (hlow : ∀ j, j < src.bit → s.isPending j = false) : s.firstPending = some src := by
  rw [State.firstPending, List.find?_eq_some_iff_append]
  refine ⟨?found, _, _, intSources_split src, fun a ha => ?lower⟩
  case found => rw [State.pending_bit _ _ src.bit_lt, hpend]
  case lower => rw [State.pending_bit _ _ a.bit_lt, hlow _ (bit_lt_of_mem_take src a ha), Bool.not_false]

/-! ## The memory of two states that differ in the driver's choice -/

theorem sameMemory.trans {s t u : State} (hst : sameMemory s t) (htu : sameMemory t u) : sameMemory s u := by
  obtain ⟨hb, hr, hc, hm, hn⟩ := hst
  obtain ⟨hb', hr', hc', hm', hn'⟩ := htu
  exact ⟨hb'.trans hb, hr'.trans hr, hc'.trans hc, hm'.trans hm, hn'.trans hn⟩

/-- The memory that stores leave depends only on the memory before them and the parameters. -/
theorem State.writes_congr (ws : List (Word × Byte)) {s t : State} (h : sameMemory s t) (hc : t.cfg = s.cfg) :
    sameMemory (s.writes ws) (t.writes ws) := by
  induction ws generalizing s t with
  | nil => exact h
  | cons w ws ih => exact ih (State.write_congr h hc w.1 w.2) (by rw [State.write_cfg, State.write_cfg, hc])

/-! ## A step that dispatches -/

/-- A CPU step with IME set and a pending source is the dispatch of the first one. -/
theorem step_dispatch {s : State} {src : IntSource} (hf : s.fault = none) (ha : s.nextAgent = .cpu)
    (hime : s.ime = true) (hsrc : s.firstPending = some src) :
    step s = .next ((s.usedChoice.dispatch src).count 80) := by
  have hd : s.usedChoice.dispatchable = some src := by
    rw [State.dispatchable, State.usedChoice_ime, hime, if_pos rfl,
      State.firstPending_congr s.usedChoice_backing, hsrc]
  unfold step State.cpuStep
  rw [hf]
  simp only [ha, hd]
  rfl

/-- The memory a dispatch leaves (R504) is not a matter of the driver's choice. -/
theorem State.usedChoice_dispatch_sameMemory (s : State) (src : IntSource) :
    sameMemory ((s.withdrawn src).writes (pushes s s.pc)) (s.usedChoice.dispatch src) := by
  obtain ⟨q, n, hu⟩ := s.usedChoice_eq
  have hstores : pushes s s.pc = pushStores s.usedChoice s.usedChoice.pc := by rw [pushes_eq, hu]; rfl
  have hstart : sameMemory (s.withdrawn src) (s.usedChoice.withdrawn src) := by rw [hu]; exact ⟨rfl, rfl, rfl, rfl, rfl⟩
  rw [hstores]
  exact (State.writes_congr _ hstart s.usedChoice_cfg).trans (s.usedChoice.dispatch_sameMemory src)

/-- Settles O11: source `k` is the one the scan finds, so the step is its dispatch, whose memory is
`usedChoice_dispatch_sameMemory`. -/
theorem interruptDispatch : Obligations.InterruptDispatch := by
  unfold Obligations.InterruptDispatch
  intro s k hf ha hime hk hpend hlow
  obtain ⟨src, rfl⟩ := exists_bit_eq k hk
  have hsrc : s.firstPending = some src := State.firstPending_eq_some hpend hlow
  have hreg : ∀ r, (s.usedChoice.dispatch src).reg r = s.reg r := fun r => by cases r <;> simp [State.reg]
  exact ⟨_, step_dispatch hf ha hime hsrc, src.vector_eq, by simp, rfl, rfl, by simp, by simp [hf], rfl, by simp,
    fun r => by rw [State.reg_count, hreg], (s.usedChoice_dispatch_sameMemory src).count 80, by simp, by simp, by simp⟩

/-! ## The EI commit -/

/-- A CPU step that does not dispatch and finds an admitted instruction at PC is `exec` of it, after the EI commit. -/
theorem step_admitted {s : State} {i : Instr} {rest : List Byte} (hf : s.fault = none) (ha : s.nextAgent = .cpu)
    (hn : s.noDispatch) (hz : s.asleep = false) (hdec : decode s.bytesAtPc = .ok (i, rest))
    (hadm : admits s.cfg i.opcode = true) : step s = exec i (s.usedChoice.commitEi.advance i.length) := by
  have hcfg : s.usedChoice.commitEi.cfg = s.cfg := by simp
  rw [step_awake s hf ha hn hz, State.fetchExecute, State.fetched_committed, State.fetched_of_decode hdec, hcfg,
    if_pos hadm]

/-- Settles O12: EI by its shape; the step by `step_admitted`, whose EI commit is taken. -/
theorem eiCommit : Obligations.EiCommit := by
  unfold Obligations.EiCommit
  refine ⟨fun s => ⟨_, exec_eq_post .ei s, rfl, rfl⟩, ?step⟩
  case step =>
    intro s i rest hf ha hn heip hz hdec hadm
    have hcommit : s.usedChoice.commitEi = { s.usedChoice with eip := false, ime := true } := by
      rw [State.commitEi, State.usedChoice_eip, heip, if_pos rfl]
    rw [step_admitted hf ha hn hz hdec hadm, hcommit, State.advance, State.usedChoice_pc]

end Sys2Proof.Machine
end

section
/-! SUPPORT. The PPU step row by row (60_exceptions.md R521): every row enters its mode last, so one lemma gives what a row
leaves, and the rows differ in what comes before. -/

namespace Sys2Proof.Machine

/-! ## LY and IF before the mode is entered -/

theorem State.enterLine_ly (s : State) (n : Nat) : (s.enterLine n).direct 0xFF44 = BitVec.ofNat 8 n := by
  rw [State.direct_enterLine, if_pos rfl]

theorem State.enterLine_if (s : State) (n : Nat) : (s.enterLine n).direct 0xFF0F = s.direct 0xFF0F := by
  rw [State.direct_enterLine, if_neg (by decide)]

theorem State.requestVBlank_ly (s : State) : s.requestVBlank.direct 0xFF44 = s.direct 0xFF44 := by
  rw [State.direct_requestVBlank, if_neg (by decide)]

theorem State.requestVBlank_if (s : State) : s.requestVBlank.direct 0xFF0F = s.direct 0xFF0F ||| 1 := by
  rw [State.direct_requestVBlank, if_pos rfl]

theorem State.withdrawVBlank_ly (s : State) : s.withdrawVBlank.direct 0xFF44 = s.direct 0xFF44 := by
  rw [State.direct_withdrawVBlank, if_neg (by decide)]

theorem State.withdrawVBlank_if (s : State) : s.withdrawVBlank.direct 0xFF0F = s.direct 0xFF0F &&& 0xFE := by
  rw [State.direct_withdrawVBlank, if_pos rfl]

/-! ## The rows -/

/-- The columns of the transition table, as the state after the row has them: mode, LINE, LY, IF, STAT[1:0] and the count. -/
def State.isPpuRow (t : State) (m : PpuMode) (line : Nat) (ly intFlags stat : Byte) (count : Nat) : Prop :=
  t.mode = m ∧ t.line = line ∧ t.direct 0xFF44 = ly ∧ t.direct 0xFF0F = intFlags ∧ t.direct 0xFF41 &&& 3 = stat ∧
    t.returned = some count

/-- A transition that ends by entering `m` from `u` keeps LINE, LY and IF of `u` and shows the code of `m` (R526). -/
theorem State.ppuStep_of_enterMode {s u : State} {m : PpuMode} {n : Nat} (h : s.ppuTransition = (u.enterMode m, n)) :
    s.ppuStep.isPpuRow m u.line (u.direct 0xFF44) (u.direct 0xFF0F) m.code n := by
  have hdirect : ∀ k, s.ppuStep.direct k = (u.enterMode m).direct k := fun k => by rw [State.ppuStep, h]; rfl
  rw [State.isPpuRow, hdirect, hdirect, hdirect, State.ppuStep, h, State.direct_enterMode,
    State.direct_enterMode, State.direct_enterMode, if_neg (by decide), if_neg (by decide), if_pos rfl]
  exact ⟨rfl, rfl, rfl, rfl, (stat_mode _ m).1, rfl⟩

theorem State.ppuStep_oamSearch {s : State} (hm : s.mode = .oamSearch) :
    s.ppuStep.isPpuRow .pixelTransfer s.line (s.direct 0xFF44) (s.direct 0xFF0F) 3 172 :=
  State.ppuStep_of_enterMode (by rw [State.ppuTransition, hm])

theorem State.ppuStep_pixelTransfer {s : State} (hm : s.mode = .pixelTransfer) :
    s.ppuStep.isPpuRow .hBlank (s.line + 1) (BitVec.ofNat 8 (s.line + 1)) (s.direct 0xFF0F) 0 204 := by
  have ht : s.ppuTransition = ((s.enterLine (s.line + 1)).enterMode .hBlank, 204) := by rw [State.ppuTransition, hm]
  have hrow := State.ppuStep_of_enterMode ht
  rwa [State.enterLine_ly, State.enterLine_if] at hrow

theorem State.ppuStep_hBlank {s : State} (hm : s.mode = .hBlank) (hl : s.line < 144) :
    s.ppuStep.isPpuRow .oamSearch s.line (s.direct 0xFF44) (s.direct 0xFF0F) 2 80 :=
  State.ppuStep_of_enterMode (by simp [State.ppuTransition, hm, hl])

/-- The last visible line is followed by VBlank, which it requests (R524). -/
theorem State.ppuStep_hBlank_last {s : State} (hm : s.mode = .hBlank) (hl : s.line = 144) :
    s.ppuStep.isPpuRow .vBlank 144 (s.direct 0xFF44) (s.direct 0xFF0F ||| 1) 1 456 := by
  have ht : s.ppuTransition = (s.requestVBlank.enterMode .vBlank, 456) := by simp [State.ppuTransition, hm, hl]
  have hrow := State.ppuStep_of_enterMode ht
  have hline : s.requestVBlank.line = 144 := hl
  rwa [State.requestVBlank_ly, State.requestVBlank_if, hline] at hrow

theorem State.ppuStep_vBlank {s : State} (hm : s.mode = .vBlank) (hl : s.line < 153) :
    s.ppuStep.isPpuRow .vBlank (s.line + 1) (BitVec.ofNat 8 (s.line + 1)) (s.direct 0xFF0F) 1 456 := by
  have ht : s.ppuTransition = ((s.enterLine (s.line + 1)).enterMode .vBlank, 456) := by
    simp [State.ppuTransition, hm, hl]
  have hrow := State.ppuStep_of_enterMode ht
  rwa [State.enterLine_ly, State.enterLine_if] at hrow

/-- The last line of VBlank wraps to line 0, withdrawing the request (R525). -/
theorem State.ppuStep_vBlank_last {s : State} (hm : s.mode = .vBlank) (hl : s.line = 153) :
    s.ppuStep.isPpuRow .oamSearch 0 0 (s.direct 0xFF0F &&& 0xFE) 2 80 := by
  have ht : s.ppuTransition = ((s.enterLine 0).withdrawVBlank.enterMode .oamSearch, 80) := by
    simp [State.ppuTransition, hm, hl]
  have hrow := State.ppuStep_of_enterMode ht
  rwa [State.withdrawVBlank_ly, State.withdrawVBlank_if, State.enterLine_ly, State.enterLine_if] at hrow

/-- A PPU step is `ppuStep` of a state that differs from the first in the driver's choice only. -/
theorem exists_step_ppu {s : State} (hf : s.fault = none) (ha : s.nextAgent = .ppu) :
    ∃ u : State, step s = .next u.ppuStep ∧ u.mode = s.mode ∧ u.line = s.line ∧ ∀ k, u.direct k = s.direct k :=
  ⟨_, step_ppu s hf ha, s.usedChoice_mode, s.usedChoice_line, State.direct_congr s.usedChoice_backing⟩

/-- Settles O18: one lemma per row, at the state in which the driver's choice is used up. -/
theorem ppuTransitions : Obligations.PpuTransitions := by
  unfold Obligations.PpuTransitions
  intro s hf ha
  obtain ⟨u, hstep, hmode, hline, hdirect⟩ := exists_step_ppu hf ha
  refine ⟨_, hstep, ?_⟩
  simp only [← hmode, ← hline, ← hdirect]
  exact ⟨State.ppuStep_oamSearch, State.ppuStep_pixelTransfer, State.ppuStep_hBlank, State.ppuStep_hBlank_last,
    State.ppuStep_vBlank, State.ppuStep_vBlank_last⟩

/-! ## The VBlank request bit by bit -/

/-- The mask of a request sets bit 0 and leaves the others. -/
theorem getLsbD_or_one (v : Byte) (k : Nat) : (v ||| 1).getLsbD k = (v.getLsbD k || decide (k = 0)) := by
  have hone : (1 : Byte).getLsbD k = decide (k = 0) := by simp
  rw [BitVec.getLsbD_or, hone]

/-- The mask of a withdrawal clears bit 0 and leaves the others. -/
theorem getLsbD_and_fe (v : Byte) (k : Nat) : (v &&& 0xFE).getLsbD k = (v.getLsbD k && !decide (k = 0)) := by
  have hmask : (0xFE : Byte) = ~~~1#8 := rfl
  rw [BitVec.getLsbD_and, hmask, BitVec.getLsbD_not]
  by_cases hk : k < 8
  · simp [hk]
  · simp [BitVec.getLsbD_of_ge, Nat.not_lt.mp hk]

/-- Settles O19: the three rows of `ppuTransitions` that touch VBlank, with IF read bit by bit. -/
theorem vBlankRequest : Obligations.VBlankRequest := by
  unfold Obligations.VBlankRequest
  intro s hf ha
  obtain ⟨t, ht, -, -, -, henter, hstay, hwrap⟩ := ppuTransitions s hf ha
  refine ⟨t, ht, fun hm hl => ?enter, fun hm hl => ?stay, fun hm hl => ?wrap⟩
  case enter =>
    obtain ⟨hmode, -, -, hif, -⟩ := henter hm hl
    exact ⟨hmode, by rw [hif, getLsbD_or_one, decide_eq_true rfl, Bool.or_true],
      fun k hk => by rw [hif, getLsbD_or_one, decide_eq_false hk, Bool.or_false]⟩
  case stay =>
    obtain ⟨hmode, -, -, hif, -⟩ := hstay hm hl
    exact ⟨hmode, hif⟩
  case wrap =>
    obtain ⟨hmode, hline, -, hif, -⟩ := hwrap hm hl
    exact ⟨hmode, hline, by rw [hif, getLsbD_and_fe, decide_eq_true rfl, Bool.not_true, Bool.and_false],
      fun k hk => by rw [hif, getLsbD_and_fe, decide_eq_false hk, Bool.not_false, Bool.and_true]⟩

end Sys2Proof.Machine
end

section
/-! SUPPORT. Decoding and encoding (30_encoding.md R110 to R119): one lemma says what the decoder does with a first byte and
what follows it, and one that every well-formed instruction stands in the cell of its first byte. -/

namespace Sys2Proof

/-! ## The decoder, cell by cell -/

theorem decode_op {b : Byte} {i : Instr} (h : primaryRow b = .op i) (tail : List Byte) :
    decode (b :: tail) = .ok (i, tail) := by
  simp only [decode, h]

theorem decode_d8 {b : Byte} {k : Byte → Instr} (h : primaryRow b = .d8 k) (n : Byte) (tail : List Byte) :
    decode (b :: n :: tail) = .ok (k n, tail) := by
  simp only [decode, h]

theorem decode_d16 {b : Byte} {k : Word → Instr} (h : primaryRow b = .d16 k) (lo hi : Byte) (tail : List Byte) :
    decode (b :: lo :: hi :: tail) = .ok (k (join hi lo), tail) := by
  simp only [decode, h]

theorem decode_cbPrefix {b : Byte} (h : primaryRow b = .cbPrefix) (cb : Byte) (tail : List Byte) :
    decode (b :: cb :: tail) = .ok (cbRow cb, tail) := by
  simp only [decode, h]

/-- Where the bytes are there that the first byte asks for, an instruction of that length is decoded, and its encoding is
the bytes it was decoded from. -/
theorem decode_of_long (b : Byte) (tail : List Byte) (h : lengthByFirst b ≤ tail.length + 1) :
    ∃ i after, decode (b :: tail) = .ok (i, after) ∧ i.length = lengthByFirst b ∧ encode i ++ after = b :: tail ∧
      i.notBarePrefix = true := by
  have henc := primaryRow_encodes b
  unfold Instr.length
  unfold lengthByFirst at h ⊢
  cases hrow : primaryRow b with
  | op i =>
    rw [hrow] at henc
    obtain ⟨hi, hp⟩ := henc
    exact ⟨i, tail, decode_op hrow tail, by rw [hi]; rfl, by rw [hi]; rfl, hp⟩
  | d8 k =>
    rw [hrow] at henc h
    obtain _ | ⟨n, tail⟩ := tail
    · simp at h
    · obtain ⟨hi, hp⟩ := henc n
      exact ⟨k n, tail, decode_d8 hrow n tail, by rw [hi]; rfl, by rw [hi]; rfl, hp⟩
  | d16 k =>
    rw [hrow] at henc h
    obtain _ | ⟨lo, _ | ⟨hi, tail⟩⟩ := tail
    · simp at h
    · simp at h
    · obtain ⟨hi', hp⟩ := henc (join hi lo)
      rw [loByte_join, hiByte_join] at hi'
      exact ⟨_, tail, decode_d16 hrow lo hi tail, by rw [hi']; rfl, by rw [hi']; rfl, hp⟩
  | cbPrefix =>
    rw [hrow] at henc h
    obtain _ | ⟨cb, tail⟩ := tail
    · simp at h
    · obtain ⟨hi, hp⟩ := encode_cbRow cb
      obtain rfl : b = 0xCB := henc
      exact ⟨_, tail, decode_cbPrefix hrow cb tail, by rw [hi]; rfl, by rw [hi]; rfl, hp⟩

/-- Where fewer bytes are there, nothing is decoded. -/
theorem decode_of_short (b : Byte) (tail : List Byte) (h : tail.length + 1 < lengthByFirst b) :
    ∃ e, decode (b :: tail) = .error e := by
  unfold lengthByFirst at h
  cases hrow : primaryRow b with
  | op i => simp [hrow] at h
  | d8 k =>
    obtain _ | ⟨n, tail⟩ := tail
    · exact ⟨.noImmediate b, by simp only [decode, hrow]⟩
    · simp [hrow] at h
  | d16 k =>
    obtain _ | ⟨lo, _ | ⟨hi, tail⟩⟩ := tail
    · exact ⟨.noImmediate b, by simp only [decode, hrow]⟩
    · exact ⟨.noImmediate b, by simp only [decode, hrow]⟩
    · simp [hrow] at h
      omega
  | cbPrefix =>
    obtain _ | ⟨cb, tail⟩ := tail
    · exact ⟨.noCbByte, by simp only [decode, hrow]⟩
    · simp [hrow] at h

theorem lengthByFirst_bounds (b : Byte) : 1 ≤ lengthByFirst b ∧ lengthByFirst b ≤ 3 := by
  unfold lengthByFirst
  split <;> decide

/-! ## The cell of an instruction -/

/-- The instruction is one that the cell of the map decodes to, with some immediate, or by the second byte. -/
def Row.yields (second : Byte) (i : Instr) : Row → Prop
  | .op j => j = i
  | .d8 k => ∃ n, k n = i
  | .d16 k => ∃ n, k n = i
  | .cbPrefix => cbRow second = i

/-- Every instruction but the bare PREFIX CB stands in the cell of its first byte (R114, R115). -/
theorem primaryRow_yields (i : Instr) (hp : i.notBarePrefix = true) :
    ∃ b tail, encode i = b :: tail ∧ (primaryRow b).yields (tail.headD 0) i := by
  cases i with
  | prefix_cb cb => exact Bool.noConfusion hp
  | _ => first | exact ⟨_, _, rfl, rfl⟩ | exact ⟨_, _, rfl, _, rfl⟩

theorem decode_encode (i : Instr) (rest : List Byte) (hp : i.notBarePrefix = true) :
    decode (encode i ++ rest) = .ok (i, rest) := by
  obtain ⟨b, tail, -, hy⟩ := primaryRow_yields i hp
  have henc := primaryRow_encodes b
  cases hrow : primaryRow b with
  | op j =>
    rw [hrow] at hy henc
    obtain rfl : j = i := hy
    rw [henc.1]
    exact decode_op hrow rest
  | d8 k =>
    rw [hrow] at hy henc
    obtain ⟨n, rfl⟩ := hy
    rw [(henc n).1]
    exact decode_d8 hrow n rest
  | d16 k =>
    rw [hrow] at hy henc
    obtain ⟨n, rfl⟩ := hy
    rw [(henc n).1]
    exact (decode_d16 hrow _ _ rest).trans (by rw [join_hiByte_loByte])
  | cbPrefix =>
    rw [hrow] at hy henc
    obtain rfl : cbRow _ = i := hy
    obtain rfl : b = 0xCB := henc
    rw [(encode_cbRow _).1]
    exact decode_cbPrefix hrow _ rest

/-- Settles O1: the instruction stands in the cell of its first byte, and the cell is decoded with the immediate read
back. -/
theorem decodeOfEncode : Obligations.DecodeOfEncode := by
  unfold Obligations.DecodeOfEncode
  intro i rest hwf
  rw [Instr.wellFormed, Bool.and_eq_true] at hwf
  exact decode_encode i rest hwf.1

/-- Settles O3: by `decode_of_long` and `decode_of_short`. -/
theorem lengthFromFirstByte : Obligations.LengthFromFirstByte := by
  unfold Obligations.LengthFromFirstByte
  intro b rest
  obtain ⟨hmin, hmax⟩ := lengthByFirst_bounds b
  refine ⟨hmin, hmax, fun h => ?_, decode_of_short b rest⟩
  obtain ⟨i, after, hdec, hlen, -⟩ := decode_of_long b rest h
  exact ⟨i, after, hdec, hlen⟩

/-- Settles O2: what was decoded had its bytes (`decode_of_short`), so it is what `decode_of_long` gives. -/
theorem encodeOfDecode : Obligations.EncodeOfDecode := by
  unfold Obligations.EncodeOfDecode
  intro bytes rest i h
  obtain _ | ⟨b, tail⟩ := bytes
  · exact Except.noConfusion rfl rfl (heq_of_eq h)
  rcases Nat.lt_or_ge (tail.length + 1) (lengthByFirst b) with hshort | hlong
  · obtain ⟨e, he⟩ := decode_of_short b tail hshort
    simp [he] at h
  · obtain ⟨j, after, hdec, -, henc, hp⟩ := decode_of_long b tail hlong
    rw [hdec] at h
    obtain ⟨rfl, rfl⟩ := Prod.mk.inj (Except.ok.inj h)
    exact ⟨henc, hp⟩

end Sys2Proof

namespace Sys2Proof.Machine

/-! ## PREFIX CB -/

theorem shapeOf_cbRow (cb : Byte) : shapeOf (cbRow cb) = cbShape cb := by
  unfold cbRow cbShape
  match fieldX cb with
  | 0 => exact shapeOf_rot _ _
  | 1 => exact shapeOf_bit _ _
  | 2 => exact shapeOf_res _ _
  | _ + 3 => exact shapeOf_set _ _

theorem cbShape_isFatal (cb : Byte) : (cbShape cb).isFatal = false := by
  obtain ⟨_, _, h⟩ | ⟨_, _, h⟩ | ⟨_, _, h⟩ | ⟨_, _, h⟩ := cbShape_cases cb <;> rw [h] <;> rfl

/-- Settles O50: the cell of 0xCB selects the CB row, whose shape is that of the PREFIX CB constructor. -/
theorem cbPrefix : Obligations.CbPrefix := by
  unfold Obligations.CbPrefix
  intro cb rest s
  have hexec : exec (.prefix_cb cb) s = .next ((cbShape cb).post s) := exec_eq_post (.prefix_cb cb) s
  obtain ⟨n, hn⟩ := (cbShape cb).post_returned s (cbShape_isFatal cb)
  refine ⟨decode_cbPrefix rfl cb rest, (encode_cbRow cb).1, ?_, _, n, hexec, hn⟩
  rw [hexec, exec_eq_post, shapeOf_cbRow]

end Sys2Proof.Machine
end

section
/-! SUPPORT. Decoding of single words and admission (30_encoding.md R116, R117). -/

namespace Sys2Proof

/-- Settles O4: the cells of the maps, computed. -/
theorem wordsDecode : Obligations.WordsDecode :=
  ⟨rfl, rfl, rfl, rfl, rfl, rfl, rfl, rfl, rfl, rfl, rfl, rfl, rfl, rfl⟩

/-- STOP is an extra, and the one that is admitted nowhere (47_system.md R404). -/
theorem admits_stop (cfg : Config) : admits cfg ⟨.primary, 0x10⟩ = false := rfl

theorem admits_of_extra {cfg : Config} {op : Opcode} (hcls : op.cls = .extra) (hstop : op ≠ ⟨.primary, 0x10⟩) :
    admits cfg op = true ↔ op ∉ cfg.withheld := by
  simp only [admits, hcls, ne_eq, hstop, not_false_eq_true, decide_true, Bool.true_and, Bool.not_eq_true', List.contains_eq_mem,
    decide_eq_false_iff_not]

/-- Settles O5: the rule by the class of the opcode, the default configuration and the counts by going over the bytes. -/
theorem admissionClasses : Obligations.AdmissionClasses := by
  unfold Obligations.AdmissionClasses
  refine ⟨fun cfg op => ⟨fun hcls => ?named, fun hcls => ?hole, admits_stop cfg, fun hcls hstop => admits_of_extra hcls hstop⟩,
    by decide +kernel, by decide +kernel, by decide +kernel, by decide +kernel, by decide +kernel⟩
  case named => rw [admits, hcls]
  case hole => rw [admits, hcls]

end Sys2Proof
end

section
/-! SUPPORT. The step of the machine (30_encoding.md R118): what a CPU step does to the memory and to IME and EIP, the
invariant, and what every step keeps. -/

namespace Sys2Proof.Machine

/-! ## The memory after a CPU step -/

theorem sameMemory.writes {s u t : State} (hsu : sameMemory s u) (hcfg : u.cfg = s.cfg) {ws : List (Word × Byte)}
    (hut : sameMemory (u.writes ws) t) : sameMemory (s.writes ws) t :=
  (State.writes_congr ws hsu hcfg).trans hut

/-- A CPU step makes byte stores through the router, a dispatch after it took back a request in IF (R504). -/
theorem State.cpuStep_memory {s t : State} (h : s.cpuStep = .next t) :
    ∃ u ws, (u = s ∨ ∃ k, u = s.withdrawn k) ∧ sameMemory (u.writes ws) t := by
  have hc : sameMemory s s.commitEi := by
    rw [s.commitEi_eq]
    exact ⟨rfl, rfl, rfl, rfl, rfl⟩
  have hcfg : s.commitEi.cfg = s.cfg := by simp
  obtain ⟨k, -, rfl⟩ | ⟨-, -, -, rfl⟩ | ⟨u, -, hu, hx⟩ := State.cpuStep_cases h
  · exact ⟨_, _, .inr ⟨k, rfl⟩, s.dispatch_sameMemory k⟩
  · exact ⟨s, [], .inl rfl, hc⟩
  · have hsu : sameMemory s u ∧ u.cfg = s.cfg := by obtain ⟨-, rfl⟩ | ⟨-, -, rfl⟩ := hu <;> exact ⟨hc, hcfg⟩
    obtain ⟨-, rfl⟩ | ⟨-, rfl⟩ := hx
    · exact ⟨s, _, .inl rfl, sameMemory.writes (u := u.advance _) hsu.1 hsu.2 (Shape.post_sameMemory _ _)⟩
    · exact ⟨s, [], .inl rfl, hsu.1⟩

theorem State.writes_rom (s : State) (ws : List (Word × Byte)) :
    (s.writes ws).rom = s.rom ∧ (s.writes ws).romBanks = s.romBanks := by
  unfold State.writes
  induction ws generalizing s with
  | nil => exact ⟨rfl, rfl⟩
  | cons w ws ih => simp [List.foldl, ih]

/-- A write leaves the mapper's kind: only an MBC1 takes a control write (R69). -/
theorem State.write_mapper_romOnly (s : State) (a : Word) (v : Byte) :
    (s.write a v).mapper = .romOnly ↔ s.mapper = .romOnly := by
  obtain ⟨-, hw⟩ | ⟨hhigh, -⟩ | ⟨hhigh, -⟩ | ⟨rfl, -⟩ := s.write_cases a v
  · rw [hw, State.mapperWrite]
    split
    · rfl
    · simp [*]
  · rw [s.mapper_write_high a v (by omega)]
  · rw [s.mapper_write_high a v hhigh]
  · rw [s.mapper_write_high _ v (by decide)]

theorem State.writes_mapper_romOnly (s : State) (ws : List (Word × Byte)) :
    (s.writes ws).mapper = .romOnly ↔ s.mapper = .romOnly := by
  unfold State.writes
  induction ws generalizing s with
  | nil => exact Iff.rfl
  | cons w ws ih => exact (ih _).trans (s.write_mapper_romOnly w.1 w.2)

/-- The ROM image and the mapper's kind after a CPU step. -/
theorem State.cpuStep_cartridge {s t : State} (h : s.cpuStep = .next t) :
    t.rom = s.rom ∧ t.romBanks = s.romBanks ∧ (t.mapper = .romOnly ↔ s.mapper = .romOnly) := by
  obtain ⟨u, ws, hu, -, hrom, -, hmapper, hbanks⟩ := State.cpuStep_memory h
  obtain ⟨hwrom, hwbanks⟩ := u.writes_rom ws
  rw [hrom, hbanks, hmapper, u.writes_mapper_romOnly, hwrom, hwbanks]
  obtain rfl | ⟨k, rfl⟩ := hu <;> exact ⟨rfl, rfl, Iff.rfl⟩

/-- STAT[2:0] survives a CPU step (20_memory.md R68). -/
theorem State.cpuStep_stat {s t : State} (h : s.cpuStep = .next t) :
    t.direct 0xFF41 &&& 0x07 = s.direct 0xFF41 &&& 0x07 := by
  obtain ⟨u, ws, hu, hbacking, -⟩ := State.cpuStep_memory h
  rw [State.direct_congr hbacking, State.stat_low_writes]
  obtain rfl | ⟨k, rfl⟩ := hu
  · rfl
  · rw [State.withdrawn, State.direct_setDirect_other _ _ _ _ (by decide)]

/-! ## What no step of either agent changes -/

/-- Settles O16: by `cpuStep_others` and `cpuStep_stat`, at the state in which the choice is used up. -/
theorem cpuStepLeavesPpu : Obligations.CpuStepLeavesPpu := by
  unfold Obligations.CpuStepLeavesPpu
  intro s t hcpu h
  obtain ⟨-, ⟨-, hstep⟩ | ⟨hppu, -⟩⟩ := step_cases h
  · obtain ⟨hmode, hline, -⟩ := State.cpuStep_others hstep
    exact ⟨by simpa using hmode, by simpa using hline,
      (State.cpuStep_stat hstep).trans (by rw [State.direct_congr s.usedChoice_backing])⟩
  · rw [hcpu] at hppu
    exact Agent.noConfusion hppu

/-- Settles O25: a CPU step by `cpuStep_cartridge`, a PPU step by its frame. -/
theorem fixedForTheRun : Obligations.FixedForTheRun := by
  unfold Obligations.FixedForTheRun
  intro s t h
  obtain ⟨-, ⟨-, hstep⟩ | ⟨-, rfl⟩⟩ := step_cases h
  · obtain ⟨hrom, hbanks, hmapper⟩ := State.cpuStep_cartridge hstep
    obtain ⟨-, -, hcfg, -⟩ := State.cpuStep_others hstep
    rw [s.usedChoice_mapper] at hmapper
    exact ⟨by simpa using hrom, by simpa using hbanks, by simpa using hcfg, hmapper⟩
  · obtain ⟨-, -, -, hrom, hbanks, -, hmapper, hcfg, -⟩ := s.usedChoice.ppuStep_frame
    rw [hrom, hbanks, hmapper, hcfg]
    simp

/-! ## The PPU step -/

/-- Every transition enters a mode last, from a state that differs in LINE, LY and IF[0] only. -/
theorem State.ppuTransition_eq (s : State) : ∃ (u : State) (m : PpuMode) (n : Nat), s.ppuTransition = (u.enterMode m, n) ∧
    (s.memoryWf → u.memoryWf) ∧ (∀ k, k ≠ 0xFF44 → k ≠ 0xFF0F → u.direct k = s.direct k) ∧
    u.direct 0xFF0F &&& 0xFE = s.direct 0xFF0F &&& 0xFE := by
  have hset : ∀ d : Byte, (d ||| 0x01) &&& 0xFE = d &&& 0xFE := by decide
  have hclear : ∀ d : Byte, (d &&& 0xFE) &&& 0xFE = d &&& 0xFE := by decide
  have hline : ∀ n, (s.memoryWf → (s.enterLine n).memoryWf) ∧
      (∀ k, k ≠ 0xFF44 → k ≠ 0xFF0F → (s.enterLine n).direct k = s.direct k) ∧
      (s.enterLine n).direct 0xFF0F &&& 0xFE = s.direct 0xFF0F &&& 0xFE := fun n =>
    ⟨s.enterLine_memoryWf n, fun k hk _ => by rw [State.direct_enterLine, if_neg hk], by rw [State.enterLine_if]⟩
  obtain ⟨-, ht⟩ | ⟨-, ht⟩ | ⟨-, -, ht⟩ | ⟨-, -, ht⟩ | ⟨-, -, ht⟩ | ⟨-, -, ht⟩ := s.ppuTransition_cases
  · exact ⟨s, _, _, ht, id, fun _ _ _ => rfl, rfl⟩
  · exact ⟨_, _, _, ht, hline _⟩
  · exact ⟨s, _, _, ht, id, fun _ _ _ => rfl, rfl⟩
  · exact ⟨_, _, _, ht, s.requestVBlank_memoryWf, fun k _ hk => by rw [State.direct_requestVBlank, if_neg hk],
      by rw [State.requestVBlank_if, hset]⟩
  · exact ⟨_, _, _, ht, hline _⟩
  · obtain ⟨hwf, hother, hif⟩ := hline 0
    exact ⟨_, _, _, ht, fun h => State.withdrawVBlank_memoryWf _ (hwf h),
      fun k h1 h2 => by rw [State.direct_withdrawVBlank, if_neg h2, hother k h1 h2],
      by rw [State.withdrawVBlank_if, hclear, hif]⟩

/-- What a PPU step leaves of the backing array, and the mode's code in STAT (R526). -/
theorem State.ppuStep_bytes (s : State) :
    (∀ k : Word, k ≠ 0xFF41 → k ≠ 0xFF44 → k ≠ 0xFF0F → s.ppuStep.direct k = s.direct k) ∧
    s.ppuStep.direct 0xFF41 = (s.direct 0xFF41 &&& 0xFC) ||| s.ppuStep.mode.code ∧
    s.ppuStep.direct 0xFF0F &&& 0xFE = s.direct 0xFF0F &&& 0xFE ∧ (s.memoryWf → s.ppuStep.memoryWf) := by
  obtain ⟨u, m, n, ht, hwf, hother, hif⟩ := s.ppuTransition_eq
  have hdirect : ∀ k, s.ppuStep.direct k = (u.enterMode m).direct k := fun k => by rw [State.ppuStep, ht]; rfl
  have hmode : s.ppuStep.mode = m := by rw [State.ppuStep, ht]; rfl
  refine ⟨fun k h1 h2 h3 => ?_, ?_, ?_, fun h => ?_⟩
  · rw [hdirect, State.direct_enterMode, if_neg h1, hother k h2 h3]
  · rw [hdirect, State.direct_enterMode, if_pos rfl, hother _ (by decide) (by decide), hmode]
  · rw [hdirect, State.direct_enterMode, if_neg (by decide), hif]
  · rw [State.ppuStep, ht]
    exact u.enterMode_memoryWf m (hwf h)

/-- Settles O17: the frame of a PPU step and the bytes it leaves. -/
theorem ppuStepLeavesCpu : Obligations.PpuStepLeavesCpu := by
  unfold Obligations.PpuStepLeavesCpu
  intro s hf hppu
  obtain ⟨hother, hstat, hif, -⟩ := s.usedChoice.ppuStep_bytes
  obtain ⟨hreg, hfsp, hcontrol, hrom, hbanks, hram, hmapper, hcfg, -⟩ := s.usedChoice.ppuStep_frame
  obtain ⟨q, n, hu⟩ := s.usedChoice_eq
  refine ⟨_, step_ppu s hf hppu, ?_⟩
  generalize s.usedChoice = u at *
  subst hu
  refine ⟨fun r => (hreg r).trans (by cases r <;> rfl), hfsp, hcontrol, hrom, hbanks, hram, hmapper, hcfg, hother, ?_, hif⟩
  rw [hstat, (stat_mode _ _).2.1]
  rfl

/-- LY goes on showing LINE (R523). -/
theorem State.ppuStep_ly {s : State} (h : s.direct 0xFF44 = BitVec.ofNat 8 s.line) :
    s.ppuStep.direct 0xFF44 = BitVec.ofNat 8 s.ppuStep.line := by
  have henter : ∀ (u : State) m n, s.ppuTransition = (u.enterMode m, n) → u.direct 0xFF44 = BitVec.ofNat 8 u.line →
      s.ppuStep.direct 0xFF44 = BitVec.ofNat 8 s.ppuStep.line := fun u m n ht hu => by
    obtain ⟨-, hline, hly, -⟩ := State.ppuStep_of_enterMode ht
    rw [hline, hly, hu]
  obtain ⟨-, ht⟩ | ⟨-, ht⟩ | ⟨-, -, ht⟩ | ⟨-, -, ht⟩ | ⟨-, -, ht⟩ | ⟨-, -, ht⟩ := s.ppuTransition_cases
  · exact henter _ _ _ ht h
  · exact henter _ _ _ ht (s.enterLine_ly _)
  · exact henter _ _ _ ht h
  · exact henter _ _ _ ht (s.requestVBlank_ly.trans h)
  · exact henter _ _ _ ht (s.enterLine_ly _)
  · exact henter _ _ _ ht ((State.withdrawVBlank_ly _).trans (s.enterLine_ly _))

theorem State.line_le {s : State} (h : s.lineOk) : s.line ≤ 153 := by
  unfold State.lineOk at h
  split at h <;> omega

/-- Settles O20: LY shows LINE by `ppuStep_ly`, and LINE goes on fitting its mode. -/
theorem lyMirrorsLine : Obligations.LyMirrorsLine := by
  unfold Obligations.LyMirrorsLine
  intro s t hline hppu h hly
  obtain ⟨-, ⟨hcpu, -⟩ | ⟨-, rfl⟩⟩ := step_cases h
  · rw [hppu] at hcpu
    exact Agent.noConfusion hcpu
  · obtain ⟨q, n, hu⟩ := s.usedChoice_eq
    have hline' : s.usedChoice.lineOk := by rw [hu]; exact hline
    have hly' : s.usedChoice.direct 0xFF44 = BitVec.ofNat 8 s.usedChoice.line := by rw [hu]; exact hly
    have hle := State.line_le (State.ppuStep_framePos hline').1
    refine ⟨?_, hle⟩
    rw [State.ppuStep_ly hly', BitVec.toNat_ofNat, Nat.mod_eq_of_lt (by omega)]

/-! ## The invariant -/

/-- Settles O22: `State.reset` has clear flags below, empty stores, and 0x02 at STAT (log entries 2 to 4). -/
theorem resetInvariant : Obligations.ResetInvariant where
  flags := rfl
  memory := ⟨Memory.nil_wf _, Memory.nil_wf _, Memory.nil_wf _⟩
  stat := rfl
  line := Nat.zero_le _
  bank := trivial
  rom := by decide
  halt := Bool.noConfusion

/-- F[3:0] stays 0: every instruction writes F through the accessors of R23. -/
theorem State.cpuStep_flagsClean {s t : State} (h : s.cpuStep = .next t) (hs : s.flagsClean) : t.flagsClean := by
  obtain ⟨k, -, rfl⟩ | ⟨-, -, -, rfl⟩ | ⟨u, -, hu, hx⟩ := State.cpuStep_cases h
  · simpa [State.flagsClean] using hs
  · simpa [State.flagsClean] using hs
  · have hclean : u.flagsClean := by obtain ⟨-, rfl⟩ | ⟨-, -, rfl⟩ := hu <;> simpa [State.flagsClean] using hs
    obtain ⟨-, rfl⟩ | ⟨-, rfl⟩ := hx
    · exact Shape.post_flagsClean _ _ hclean
    · exact hclean

/-- HALT is run only where it is admitted, so HALTED is set only where it exists (10_state.md R31). -/
theorem State.cpuStep_haltOk {s t : State} (h : s.cpuStep = .next t) (hs : s.haltOk) : t.haltOk := by
  obtain ⟨k, -, rfl⟩ | ⟨-, -, -, rfl⟩ | ⟨u, -, hu, hx⟩ := State.cpuStep_cases h
  · exact Bool.noConfusion
  · simpa [State.haltOk] using hs
  · have hok : u.haltOk := by
      obtain ⟨-, rfl⟩ | ⟨-, -, rfl⟩ := hu
      · simpa [State.haltOk] using hs
      · exact Bool.noConfusion
    obtain ⟨hadm, rfl⟩ | ⟨-, rfl⟩ := hx
    · obtain ⟨-, -, hcfg, -⟩ := (shapeOf u.fetched).post_others (u.advance u.fetched.length)
      intro hhalted
      rw [hcfg]
      by_cases hhalt : shapeOf u.fetched = .halt
      · rw [shapeOf_eq_halt hhalt] at hadm
        exact if_pos hadm
      · rw [Shape.post_halted _ _ hhalt] at hhalted
        exact hok hhalted
    · exact hok

theorem State.cpuStep_inv {s t : State} (h : s.cpuStep = .next t) (hs : s.Inv) : t.Inv := by
  obtain ⟨hmode, hline, -⟩ := State.cpuStep_others h
  obtain ⟨-, hbanks, -⟩ := State.cpuStep_cartridge h
  obtain ⟨u, ws, hu, hbacking, hrom, hram, hmapper, -⟩ := State.cpuStep_memory h
  have hmem : u.memoryWf ∧ u.bankOk := by
    obtain rfl | ⟨k, rfl⟩ := hu
    · exact ⟨hs.memory, hs.bank⟩
    · exact ⟨s.setDirect_memoryWf _ _ hs.memory, hs.bank⟩
  exact {
    flags := State.cpuStep_flagsClean h hs.flags
    memory := by
      unfold State.memoryWf
      rw [hbacking, hrom, hram]
      exact u.writes_memoryWf ws hmem.1
    stat := by rw [State.statMirrors, State.cpuStep_stat h, hmode, hs.stat]
    line := by
      unfold State.lineOk
      rw [hmode, hline]
      exact hs.line
    bank := by
      unfold State.bankOk
      rw [hmapper]
      exact u.writes_bankOk ws hmem.2
    rom := by
      unfold State.romOk
      rw [hbanks]
      exact hs.rom
    halt := State.cpuStep_haltOk h hs.halt }

theorem State.ppuStep_inv {s : State} (hs : s.Inv) : s.ppuStep.Inv := by
  obtain ⟨-, ⟨hf, -⟩, ⟨-, -, hhalted, -⟩, -, hbanks, -, hmapper, hcfg, -⟩ := s.ppuStep_frame
  obtain ⟨-, hstat, -, hmem⟩ := s.ppuStep_bytes
  have hbit : ∀ (d : Byte) (m : PpuMode), d &&& 0x07 = m.code → d &&& 0x04 = 0 := fun d m => by
    cases m <;> revert d <;> decide
  exact {
    flags := by rw [State.flagsClean, hf, hs.flags]
    memory := hmem hs.memory
    stat := by
      rw [State.statMirrors, hstat]
      exact (stat_mode _ _).2.2 (hbit _ _ hs.stat)
    line := (State.ppuStep_framePos hs.line).1
    bank := by
      unfold State.bankOk
      rw [hmapper]
      exact hs.bank
    rom := by
      unfold State.romOk
      rw [hbanks]
      exact hs.rom
    halt := by
      unfold State.haltOk
      rw [hhalted, hcfg]
      exact hs.halt }

/-- Settles O23: the driver's choice touches nothing the invariant speaks of, and each agent's step keeps it. -/
theorem stepKeepsInvariant : Obligations.StepKeepsInvariant := by
  unfold Obligations.StepKeepsInvariant
  intro s t hs h
  have hu : s.usedChoice.Inv := by
    obtain ⟨q, n, hu⟩ := s.usedChoice_eq
    rw [hu]
    exact ⟨hs.flags, hs.memory, hs.stat, hs.line, hs.bank, hs.rom, hs.halt⟩
  obtain ⟨-, ⟨-, hstep⟩ | ⟨-, rfl⟩⟩ := step_cases h
  · exact State.cpuStep_inv hstep hu
  · exact State.ppuStep_inv hu

end Sys2Proof.Machine
end

section
/-! SUPPORT. The phases of a CPU step (30_encoding.md R118): the wait, the wake-up, the fetch, the fatal fault, and what they do
to IME and EIP (10_state.md R27, R28). -/

namespace Sys2Proof.Machine

/-! ## Instructions that complete and instructions that fault -/

theorem shapeOf_not_fatal {i : Instr} (h : neverAdmitted i = false) : (shapeOf i).isFatal = false := by
  cases hp : i.notBarePrefix with
  | true => rw [shapeOf_isFatal i hp, h]
  | false =>
    cases i with
    | prefix_cb cb => exact cbShape_isFatal cb
    | _ => exact Bool.noConfusion hp

/-- Settles O9: every shape but the fatal one keeps FAULT and returns a count. -/
theorem everyInstructionCompletes : Obligations.EveryInstructionCompletes := by
  unfold Obligations.EveryInstructionCompletes
  intro i s h
  obtain ⟨n, hn⟩ := (shapeOf i).post_returned s (shapeOf_not_fatal h)
  exact ⟨_, n, exec_eq_post i s, (shapeOf i).post_fault s (shapeOf_not_fatal h), hn⟩

/-- The holes and STOP, by their opcodes (R116, 47_system.md R404). -/
def neverAdmittedBytes : List Byte := [0x10, 0xD3, 0xDB, 0xDD, 0xE3, 0xE4, 0xEB, 0xEC, 0xED, 0xF4, 0xFC, 0xFD]

theorem neverAdmitted_prefix_cb (cb : Byte) : neverAdmitted (.prefix_cb cb) = false := by
  have hop : (Instr.prefix_cb cb).opcode = ⟨.cb, cb⟩ := rfl
  rw [neverAdmitted, hop, Opcode.cls]
  cases isCbExtra cb <;> rfl

/-- What is never admitted stands in the primary table at one of twelve bytes, and means the fatal fault there. -/
theorem shapeOf_of_neverAdmitted {i : Instr} (h : neverAdmitted i = true) :
    ∃ op ∈ neverAdmittedBytes, i.opcode = ⟨.primary, op⟩ ∧ shapeOf i = .unimplemented op := by
  have hfatal : (shapeOf i).isFatal = true := by
    cases hp : i.notBarePrefix with
    | true => rw [shapeOf_isFatal i hp, h]
    | false =>
      cases i with
      | prefix_cb cb => exact absurd h (by rw [neverAdmitted_prefix_cb]; decide)
      | _ => exact Bool.noConfusion hp
  cases i with
  | prefix_cb cb => exact absurd hfatal (by rw [shapeOf_prefix_cb, cbShape_isFatal]; decide)
  | _ => first | exact Bool.noConfusion hfatal | exact ⟨_, by decide, rfl, rfl⟩

theorem admits_of_neverAdmitted {i : Instr} (h : neverAdmitted i = true) (cfg : Config) :
    admits cfg i.opcode = false := by
  rw [neverAdmitted, Bool.or_eq_true, decide_eq_true_eq, decide_eq_true_eq] at h
  obtain hhole | hstop := h
  · rw [admits, hhole]
  · rw [hstop]
    rfl

/-- Settles O10: the opcode and the shape by `shapeOf_of_neverAdmitted`; the fatal fault writes FAULT alone. -/
theorem holesAndStopFault : Obligations.HolesAndStopFault := by
  unfold Obligations.HolesAndStopFault
  intro i s h
  obtain ⟨op, hmem, hop, hshape⟩ := shapeOf_of_neverAdmitted h
  have hexec : exec i s = .next (s.raiseFatal ⟨.primary, op, s.pc - 1⟩) := by rw [exec_eq_post, hshape, Shape.post]
  have hadm := admits_of_neverAdmitted h
  rw [hop] at hadm ⊢
  exact ⟨rfl, hmem, hadm, _, hexec, rfl, rfl, ⟨rfl, rfl, rfl⟩, fun r => by cases r <;> rfl, ⟨rfl, rfl, rfl, rfl, rfl⟩, rfl,
    rfl, rfl, ⟨rfl, rfl, rfl, rfl, rfl⟩⟩

/-! ## The wait, the wake-up, the fetch -/

/-- Settles O8: with FAULT clear each agent's step answers; with FAULT set none does. -/
theorem stepAnswers : Obligations.StepAnswers := by
  unfold Obligations.StepAnswers
  refine fun s => ⟨fun hf => ?_, step_fault s⟩
  cases ha : s.nextAgent with
  | cpu =>
    obtain ⟨t, ht⟩ := s.usedChoice.cpuStep_next
    exact ⟨t, by rw [← ht, step, hf]; simp only [ha]⟩
  | ppu => exact ⟨_, step_ppu s hf ha⟩

/-- The state in which a CPU step that neither dispatches nor waits fetches: EI committed (phase 2), awake (phase 2b). -/
def State.woken (s : State) : State := { s.usedChoice.commitEi with halted := s.halted && !s.asleep }

theorem State.woken_eq (s : State) : ∃ q n, s.woken =
    { s with sched := q, turn := n, ime := s.ime || s.eip, eip := false, halted := s.halted && !s.asleep } := by
  obtain ⟨q, n, h⟩ := s.committed_eq
  exact ⟨q, n, by rw [State.woken, h]⟩

theorem State.pending_committed (s : State) : s.usedChoice.commitEi.pending = s.pending :=
  State.pending_congr (by simp)

theorem step_woken {s : State} (hf : s.fault = none) (ha : s.nextAgent = .cpu) (hn : s.noDispatch)
    (hwake : s.asleep = true → s.pending ≠ 0) : step s = s.woken.fetchExecute := by
  have hhalted : s.usedChoice.commitEi.halted = s.halted := by simp
  rw [step_noDispatch s hf ha hn, State.wakeExecute, s.asleep_committed, State.woken]
  cases hz : s.asleep with
  | false => rw [if_neg (by decide), Bool.not_false, Bool.and_true, ← hhalted]
  | true => rw [if_pos rfl, s.pending_committed, if_neg (hwake hz), Bool.not_true, Bool.and_false]

theorem step_wait {s : State} (hf : s.fault = none) (ha : s.nextAgent = .cpu) (hn : s.noDispatch)
    (hz : s.asleep = true) (hp : s.pending = 0) : step s = done 4 s.usedChoice.commitEi := by
  rw [step_noDispatch s hf ha hn, State.wakeExecute, s.asleep_committed, hz, if_pos rfl, s.pending_committed, if_pos hp]

theorem State.fetched_woken {s : State} {i : Instr} {rest : List Byte} (h : decode s.bytesAtPc = .ok (i, rest)) :
    s.woken.fetched = i := by
  obtain ⟨q, n, hw⟩ := s.woken_eq
  rw [hw]
  exact State.fetched_of_decode h

/-- Settles O6: by `step_admitted`, PC being that of the state before. -/
theorem stepRunsDecodedInstruction : Obligations.StepRunsDecodedInstruction := by
  unfold Obligations.StepRunsDecodedInstruction
  intro s i rest hf ha hn hz hdec hadm
  rw [step_admitted hf ha hn hz hdec hadm, State.advance, State.commitEi_pc, State.usedChoice_pc]

/-- Settles O15: the wait returns the state after the EI commit; the wake-up goes on with the fetch. -/
theorem haltedCpu : Obligations.HaltedCpu := by
  unfold Obligations.HaltedCpu
  intro s hf ha hz hn
  refine ⟨fun hp => ?wait, fun i rest hp hdec hadm => ?wake⟩
  case wait =>
    have hhalted : s.halted = true := by
      rw [State.asleep, Bool.and_eq_true] at hz
      exact hz.2
    obtain ⟨q, n, hc⟩ := s.committed_eq
    refine ⟨_, step_wait hf ha hn hz hp, ?_⟩
    rw [hc]
    exact ⟨hhalted, fun r => by cases r <;> rfl, ⟨rfl, rfl, rfl⟩, ⟨rfl, rfl, rfl, rfl, rfl⟩, rfl, rfl, rfl, rfl, hf⟩
  case wake =>
    have hcfg : s.woken.cfg = s.cfg := by simp [State.woken]
    rw [step_woken hf ha hn fun _ => hp, State.fetchExecute, State.fetched_woken hdec, hcfg, if_pos hadm, State.advance,
      State.woken, hz, Bool.not_true, Bool.and_false, State.commitEi_pc, State.usedChoice_pc]

/-- Settles O7: the fetch of an opcode that is not admitted raises the fatal fault in the state after the commit and the
wake-up (log entry 8). -/
theorem unadmittedOpcodeFaults : Obligations.UnadmittedOpcodeFaults := by
  unfold Obligations.UnadmittedOpcodeFaults
  intro s i rest hf ha hn hwake hdec hadm
  have hfetched := State.fetched_woken hdec
  obtain ⟨q, n, hw⟩ := s.woken_eq
  have hstep : step s = .next ((s.woken.advance i.opcode.fetched).raiseFatal ⟨i.opcode.table, i.opcode.byte, s.woken.pc⟩) := by
    have hcfg : s.woken.cfg = s.cfg := by rw [hw]
    rw [step_woken hf ha hn hwake, State.fetchExecute, hfetched, hcfg, if_neg (by rw [hadm]; decide)]
  have hlen : BitVec.ofNat 16 i.opcode.fetched = if i.opcode.table = .cb then 2 else 1 := by
    rw [Opcode.fetched]
    cases i.opcode.table <;> rfl
  refine ⟨_, hstep, ?_⟩
  rw [hw]
  refine ⟨rfl, congrArg (s.pc + ·) hlen, fun r => by cases r <;> rfl, rfl, rfl, ⟨rfl, rfl, rfl, rfl, rfl⟩,
    fun he => ⟨?_, rfl⟩, fun he => ⟨?_, rfl⟩, fun hz => ?_, fun hz => ?_, rfl, rfl, rfl, rfl, _, step_fault _ _ rfl⟩
  · exact (congrArg (s.ime || ·) he).trans (Bool.or_false _)
  · exact (congrArg (s.ime || ·) he).trans (Bool.or_true _)
  · exact (congrArg (s.halted && !·) hz).trans (Bool.and_true _)
  · exact (congrArg (s.halted && !·) hz).trans (Bool.and_false _)

/-! ## IME and EIP -/

/-- What a shape does to IME and EIP: DI, EI and the two forms of RETI change one of them, no other shape does. -/
theorem Shape.post_interrupts (sh : Shape) (s : State) :
    (sh = .di ∧ (sh.post s).ime = false ∧ (sh.post s).eip = s.eip) ∨
    (sh = .ei ∧ (sh.post s).ime = s.ime ∧ (sh.post s).eip = true) ∨
    (sh = .reti ∧ (sh.post s).ime = true ∧ (sh.post s).eip = s.eip) ∨
    (sh = .reti ∧ s.cfg.retiMode = .delayed ∧ (sh.post s).ime = s.ime ∧ (sh.post s).eip = true) ∨
    ((sh.post s).ime = s.ime ∧ (sh.post s).eip = s.eip) := by
  by_cases hdi : sh = .di
  · subst hdi
    exact .inl ⟨rfl, rfl, rfl⟩
  by_cases hei : sh = .ei
  · subst hei
    exact .inr (.inl ⟨rfl, rfl, rfl⟩)
  by_cases hreti : sh = .reti
  · subst hreti
    have hcfg : ({ s.popSp with pc := s.popValue } : State).cfg = s.cfg := rfl
    rw [Shape.post, State.returnFromInterrupt, hcfg]
    cases hm : s.cfg.retiMode with
    | immediate => exact .inr (.inr (.inl ⟨rfl, rfl, rfl⟩))
    | delayed => exact .inr (.inr (.inr (.inl ⟨rfl, rfl, rfl, rfl⟩)))
  · exact .inr (.inr (.inr (.inr ⟨sh.post_ime s hdi hreti, sh.post_eip s hei hreti⟩)))

/-- What a CPU step does to IME and EIP: a dispatch clears IME; any other step commits EI, and then the fetched
instruction may change them. -/
theorem step_cpu_interrupts {s t : State} (ha : s.nextAgent = .cpu) (h : step s = .next t) :
    (¬s.noDispatch ∧ t.ime = false ∧ t.eip = s.eip) ∨
    (s.noDispatch ∧ t.ime = (s.ime || s.eip) ∧ t.eip = false) ∨
    (s.noDispatch ∧ ∃ u, u.ime = (s.ime || s.eip) ∧ u.eip = false ∧ u.cfg = s.cfg ∧ t = (shapeOf s.fetched).post u) := by
  obtain ⟨-, ⟨-, hstep⟩ | ⟨hppu, -⟩⟩ := step_cases h
  case inr => rw [ha] at hppu; exact Agent.noConfusion hppu
  obtain ⟨q, n, hu⟩ := s.usedChoice_eq
  have hnone : s.usedChoice.dispatchable = none ↔ s.noDispatch := by
    rw [State.dispatchable_eq_none_iff, hu]
    rfl
  obtain ⟨k, hk, rfl⟩ | ⟨hn, -, -, rfl⟩ | ⟨u, hn, hw, hx⟩ := State.cpuStep_cases hstep
  · refine .inl ⟨fun hn => ?_, rfl, by simp⟩
    rw [hnone.mpr hn] at hk
    exact Option.noConfusion rfl (heq_of_eq hk)
  · exact .inr (.inl ⟨hnone.mp hn, by simp, by simp⟩)
  · have huf : u.fetched = s.fetched ∧ u.ime = (s.ime || s.eip) ∧ u.eip = false ∧ u.cfg = s.cfg := by
      have hfetched := s.fetched_committed
      obtain ⟨-, rfl⟩ | ⟨-, -, rfl⟩ := hw
      · exact ⟨hfetched, by simp, by simp, by simp⟩
      · exact ⟨hfetched, by simp, by simp, by simp⟩
    obtain ⟨hfetched, hime, heip, hcfg⟩ := huf
    obtain ⟨-, rfl⟩ | ⟨-, rfl⟩ := hx
    · exact .inr (.inr ⟨hnone.mp hn, u.advance u.fetched.length, hime, heip, hcfg, by rw [hfetched]⟩)
    · exact .inr (.inl ⟨hnone.mp hn, hime, heip⟩)

/-- Settles O14: the cases of `step_cpu_interrupts`, with the instruction named by its shape; a PPU step changes neither. -/
theorem imeAndEipChanges : Obligations.ImeAndEipChanges := by
  unfold Obligations.ImeAndEipChanges
  intro s t h
  cases ha : s.nextAgent with
  | ppu =>
    obtain ⟨-, ⟨hcpu, -⟩ | ⟨-, rfl⟩⟩ := step_cases h
    · rw [ha] at hcpu
      exact Agent.noConfusion hcpu
    · obtain ⟨-, -, ⟨hime, heip, -⟩, -⟩ := s.usedChoice.ppuStep_frame
      rw [hime, heip]
      simp +contextual
  | cpu =>
    obtain ⟨hd, hime, heip⟩ | ⟨hn, hime, heip⟩ | ⟨hn, u, hui, hue, huc, rfl⟩ := step_cpu_interrupts ha h
    · rw [hime, heip]
      simp +contextual [hd]
    · rw [hime, heip]
      simp +contextual [hn]
    · rw [← huc]
      obtain ⟨hsh, hime, heip⟩ | ⟨hsh, hime, heip⟩ | ⟨hsh, hime, heip⟩ | ⟨hsh, hm, hime, heip⟩ | ⟨hime, heip⟩ :=
        (shapeOf s.fetched).post_interrupts u <;> rw [hime, heip]
      · simp +contextual [hue, hn, shapeOf_eq_di hsh]
      · simp +contextual [hui, hn, shapeOf_eq_ei hsh]
      · simp +contextual [hue, hn, shapeOf_eq_reti hsh]
      · simp +contextual [hui, hn, hm, shapeOf_eq_reti hsh]
      · simp +contextual [hui, hue, hn]

/-! ## EI then DI -/

theorem decode_ei (b1 b2 : Byte) : decode [0xFB, b1, b2] = .ok (.ei, [b1, b2]) := decode_op rfl _

theorem decode_di (b1 b2 : Byte) : decode [0xF3, b1, b2] = .ok (.di, [b1, b2]) := decode_op rfl _

/-- Settles O13: EI runs, since IME is clear. Then a dispatch, possible only where EIP was set before, clears IME, and
else DI runs. -/
theorem eiThenDi : Obligations.EiThenDi := by
  unfold Obligations.EiThenDi
  intro s rest hf hq hi hz hb0 hb1
  have ha : s.nextAgent = .cpu := by rw [State.nextAgent, hq]
  have hdec : decode s.bytesAtPc = .ok (.ei, [s.read (s.pc + 1), s.read (s.pc + 2)]) := by
    rw [State.bytesAtPc, hb0, decode_ei]
  have hu : s.usedChoice = { s with sched := .cpu :: rest } := by rw [State.usedChoice, hq]
  have hstep := step_admitted hf ha (.inl hi) hz hdec rfl
  rw [exec_eq_post, hu, State.commitEi_eq, hi, Bool.false_or] at hstep
  generalize ht : Shape.post _ (shapeOf .ei) = t at hstep
  have hfields : t = { s with sched := .cpu :: rest, ime := s.eip, eip := true, pc := s.pc + 1, returned := some 4 } := by
    rw [← ht]
    rfl
  have hta : t.nextAgent = .cpu := by rw [hfields]; rfl
  have htf : t.fault = none := by rw [hfields, hf]
  have htz : t.asleep = false := by rw [hfields]; exact hz
  have htdec : decode t.bytesAtPc = .ok (.di, [t.read (t.pc + 1), t.read (t.pc + 2)]) := by
    have hread : t.read t.pc = 0xF3 := by rw [hfields]; exact hb1
    rw [State.bytesAtPc, hread, decode_di]
  obtain ⟨u, hu'⟩ := (stepAnswers t).1 htf
  have hdi : t.noDispatch → u = Shape.post (t.usedChoice.commitEi.advance 1) .di := fun hn => by
    have := step_admitted htf hta hn htz htdec rfl
    rw [hu', exec_eq_post] at this
    exact Host.Outcome.next.inj this
  refine ⟨t, u, hstep, hu', by rw [hfields], by rw [hfields], ?ime, fun he => ?frame⟩
  case ime =>
    obtain ⟨-, hime, -⟩ | ⟨hn, -⟩ | ⟨hn, -⟩ := step_cpu_interrupts hta hu'
    · exact hime
    · rw [hdi hn]; rfl
    · rw [hdi hn]; rfl
  case frame =>
    have hn : t.noDispatch := .inl (by rw [hfields, he])
    obtain ⟨q, n, hc⟩ := t.committed_eq
    rw [hdi hn, hc, hfields]
    exact ⟨rfl, by show s.pc + 1 + 1 = s.pc + 2; bv_omega, rfl, ⟨rfl, rfl, rfl, rfl, rfl⟩⟩

end Sys2Proof.Machine
end

section
/-! SUPPORT. The PPU's frame (60_exceptions.md R522): the counts add up along the frame, and the places of the frame come
round in every weakly fair run. -/

namespace Sys2Proof.Machine

/-- The counts returned since OAMSearch at line 0, for a line that fits its mode: a line is 456 (R522). -/
def State.frameCount (s : State) : Nat :=
  match s.mode with
  | .oamSearch => 456 * s.line
  | .pixelTransfer => 456 * s.line + 172
  | .hBlank => 456 * s.line - 80
  | .vBlank => 456 * s.line + 376

/-- A PPU step adds its count; the step that wraps to the start of the frame has added a whole frame. -/
theorem State.ppuStep_frameCount {s : State} (h : s.lineOk) :
    s.frameCount + s.ppuTransition.2 = s.ppuStep.frameCount + 70224 * ((s.framePos + 1) / 442) := by
  unfold State.lineOk at h
  unfold State.frameCount State.framePos State.ppuStep
  obtain ⟨hm, ht⟩ | ⟨hm, ht⟩ | ⟨hm, hl, ht⟩ | ⟨hm, hl, ht⟩ | ⟨hm, hl, ht⟩ | ⟨hm, hl, ht⟩ := s.ppuTransition_cases <;>
    rw [ht] <;> simp only [hm] at h <;>
    simp only [hm, State.enterMode, State.enterLine, State.requestVBlank, State.withdrawVBlank, State.setDirect] <;>
    omega

/-- The counts of `n` PPU steps: where the run ends in the frame, and the frames it completed. -/
theorem State.ppuRun_count {s : State} (h : s.lineOk) (n : Nat) :
    s.frameCount + (s.ppuRun n).2 = (s.ppuRun n).1.frameCount + 70224 * ((s.framePos + n) / 442) := by
  induction n generalizing s with
  | zero =>
    have := State.framePos_lt h
    rw [Nat.add_zero s.framePos, Nat.div_eq_of_lt this]
    rfl
  | succ n ih =>
    obtain ⟨hok, hpos⟩ := State.ppuStep_framePos h
    have hcount := State.ppuStep_frameCount h
    have ih := ih hok
    rw [hpos] at ih
    rw [State.ppuRun]
    dsimp only
    omega

/-! ## Runs from the start of a frame -/

section FromStart

variable {s : State} (hm : s.mode = .oamSearch) (hl : s.line = 0)
include hm hl

theorem State.ppuRun_fromStart (n : Nat) : (s.ppuRun n).1.lineOk ∧ (s.ppuRun n).1.framePos = n % 442 := by
  have hok : s.lineOk := by
    unfold State.lineOk
    simp [hm, hl]
  have hzero : s.framePos = 0 := (State.framePos_eq_zero hok).mpr ⟨hm, hl⟩
  have hrun := State.ppuRun_framePos hok n
  rwa [hzero, Nat.zero_add] at hrun

theorem State.ppuRun_start_iff (n : Nat) :
    ((s.ppuRun n).1.mode = .oamSearch ∧ (s.ppuRun n).1.line = 0) ↔ n % 442 = 0 := by
  obtain ⟨hok, hpos⟩ := State.ppuRun_fromStart hm hl n
  rw [← State.framePos_eq_zero hok, hpos]

theorem State.ppuRun_vBlank_iff (n : Nat) : (s.ppuRun n).1.mode = .vBlank ↔ 432 ≤ n % 442 := by
  obtain ⟨hok, hpos⟩ := State.ppuRun_fromStart hm hl n
  rw [State.framePos_vBlank hok, hpos]

/-- Whole frames return 70224 each. -/
theorem State.ppuRun_frames (k : Nat) : (s.ppuRun (442 * k)).2 = 70224 * k := by
  obtain ⟨hmEnd, hlEnd⟩ := (State.ppuRun_start_iff hm hl (442 * k)).mpr (Nat.mul_mod_right 442 k)
  have hcount := State.ppuRun_count (State.ppuRun_fromStart hm hl 0).1 (442 * k)
  simp only [State.ppuRun, State.frameCount, State.framePos, hm, hl, hmEnd, hlEnd] at hcount
  omega

/-- The step that ends a frame withdraws the VBlank request (R525). -/
theorem State.ppuRun_withdraws (n : Nat) (hn : n % 442 = 441) :
    ((s.ppuRun (n + 1)).1.direct 0xFF0F).getLsbD 0 = false := by
  obtain ⟨hok, hpos⟩ := State.ppuRun_fromStart hm hl n
  have hmode : (s.ppuRun n).1.mode = .vBlank := (State.framePos_vBlank hok).mpr (by omega)
  have hline : (s.ppuRun n).1.line = 153 := by
    unfold State.framePos at hpos
    simp only [hmode] at hpos
    omega
  obtain ⟨-, -, -, hif, -⟩ := State.ppuStep_vBlank_last hmode hline
  rw [State.ppuRun_last, hif, getLsbD_and_fe, decide_eq_true rfl, Bool.not_true, Bool.and_false]

end FromStart

/-- Settles O21: a frame by the place in it and the count along it; and a place where line `l` is entered comes again by
`IsRun.reaches`. -/
theorem ppuFrame : Obligations.PpuFrame := by
  unfold Obligations.PpuFrame
  refine ⟨fun s hm hl => ?frame, fun who r hrun hfair h0 hf l k hl => ?fair⟩
  case frame =>
    have hstart := State.ppuRun_start_iff hm hl
    have hend := (hstart 442).mpr rfl
    refine ⟨hend.1, hend.2, State.ppuRun_frames hm hl 1, State.ppuRun_withdraws hm hl 441 rfl, fun n hn hlt => ?first,
      fun n hlt => ?vBlank⟩
    case first =>
      rw [hstart n]
      omega
    case vBlank => rw [State.ppuRun_vBlank_iff hm hl, Nat.mod_eq_of_lt hlt]
  case fair =>
    have hentry := entryPos_lt hl
    have hnow := State.framePos_lt (hrun.lineOk hf h0 k)
    obtain ⟨m, hk, hppu, hpos⟩ := hrun.reaches hfair hf h0 (entryPos l + 441 - (r k).framePos) k
    have hstep := hrun.ppu (hf m) hppu
    have hplace : (r m).ppuStep.framePos = entryPos l := by
      rw [← hstep, hpos]
      omega
    refine ⟨m + 1, by omega, ?_⟩
    rw [hstep]
    exact State.ppuStep_entry (hrun.lineOk hf h0 m) hl hplace

end Sys2Proof.Machine
end

section
/-! SUPPORT. The launch (10_state.md R42 to R45, 20_memory.md R69): what an accepted one leaves and why one is refused. -/

namespace Sys2Proof.Machine

theorem romLengthOk_iff (n : Nat) : romLengthOk n = true ↔ n % 0x4000 = 0 ∧ 0x8000 ≤ n ∧ n ≤ 0x200000 := by
  simp [romLengthOk, and_assoc]

theorem mapperOfByte_some {v : Byte} {mapper : Mapper} (h : mapperOfByte v = some mapper) :
    mapper = .romOnly ∧ v = 0 ∨ mapper = .mbc1 ⟨1, 0, .rom, false⟩ ∧ v = 1 := by
  unfold mapperOfByte at h
  split_ifs at h with h0 h1
  · exact .inl ⟨(Option.some.inj h).symm, h0⟩
  · exact .inr ⟨(Option.some.inj h).symm, h1⟩

theorem mapperOfByte_none {v : Byte} (h : mapperOfByte v = none) : v ≠ 0 ∧ v ≠ 1 := by
  unfold mapperOfByte at h
  split_ifs at h with h0 h1
  exact ⟨h0, h1⟩

/-- The state an accepted launch leaves, by its parameters and the mapper of its image. -/
def LaunchParams.state (p : LaunchParams) (mapper : Mapper) : State where
  a := p.cpu.a
  f := p.cpu.f
  b := p.cpu.b
  c := p.cpu.c
  d := p.cpu.d
  e := p.cpu.e
  h := p.cpu.h
  l := p.cpu.l
  sp := p.cpu.sp
  pc := p.cpu.pc
  ime := false
  eip := false
  halted := haltedAtLaunch p.cfg p.cpu
  fault := none
  backing := initialBacking p.initMem
  rom := Memory.ofCells .rom (p.rom.filter fun c => c.1 < p.romBytes)
  romBanks := p.romBytes / 0x4000
  cartRam := Memory.ofCells .cartRam p.initRam
  mapper := mapper
  mode := .oamSearch
  line := 0
  cfg := p.cfg
  returned := none
  sched := []
  turn := 0

/-- A byte of the ROM image at a launch. -/
theorem launchRom_get (p : LaunchParams) (k : Nat) (hk : k < p.romBytes) (hsize : p.romBytes ≤ 0x200000) :
    Memory.get .rom (Memory.ofCells .rom (p.rom.filter fun c => c.1 < p.romBytes)) k = givenByte .rom p.rom k := by
  rw [Memory.get_ofCells _ _ _ (by simp only [Store.size]; omega), givenByte_filter _ _ _ _ hk]

/-- The mapper an image has by its byte at 0x0147, in its reset state (R69). -/
def LaunchParams.hasMapper (p : LaunchParams) (mapper : Mapper) : Prop :=
  mapper = .romOnly ∧ givenByte .rom p.rom 0x0147 = 0 ∨
    mapper = .mbc1 ⟨1, 0, .rom, false⟩ ∧ givenByte .rom p.rom 0x0147 = 1

/-- The outcomes of a launch: three refusals, each with its reason, and the acceptance. -/
theorem launch_cases (p : LaunchParams) :
    (romLengthOk p.romBytes = false ∧ launch p = .error (.romLength p.romBytes)) ∨
    (givenByte .rom p.rom 0x0147 ≠ 0 ∧ givenByte .rom p.rom 0x0147 ≠ 1 ∧
      launch p = .error (.mapperByte (givenByte .rom p.rom 0x0147))) ∨
    (p.cpu.f &&& 0x0F ≠ 0 ∧ launch p = .error (.resetFlags p.cpu.f)) ∨
    (romLengthOk p.romBytes = true ∧ p.cpu.f &&& 0x0F = 0 ∧
      ∃ mapper, launch p = .ok (p.state mapper) ∧ p.hasMapper mapper) := by
  cases hlen : romLengthOk p.romBytes with
  | false => exact .inl ⟨rfl, by rw [launch, if_pos hlen]⟩
  | true =>
    obtain ⟨-, hmin, hmax⟩ := (romLengthOk_iff _).mp hlen
    have hbyte := launchRom_get p 0x0147 (by omega) hmax
    have hlen' : ¬romLengthOk p.romBytes = false := by rw [hlen]; decide
    cases hm : mapperOfByte (givenByte .rom p.rom 0x0147) with
    | none =>
      obtain ⟨h0, h1⟩ := mapperOfByte_none hm
      exact .inr (.inl ⟨h0, h1, by simp only [launch, if_neg hlen', hbyte, hm]⟩)
    | some mapper =>
      by_cases hf : p.cpu.f &&& 0x0F = 0
      · refine .inr (.inr (.inr ⟨rfl, hf, mapper, ?_, mapperOfByte_some hm⟩))
        simp only [launch, if_neg hlen', hbyte, hm, if_neg (not_not_intro hf)]
        rfl
      · exact .inr (.inr (.inl ⟨hf, by simp only [launch, if_neg hlen', hbyte, hm, if_pos hf]⟩))

theorem LaunchParams.state_direct (p : LaunchParams) (mapper : Mapper) (k : Word) : (p.state mapper).direct k =
    if k = 0xFF44 then 0x00
    else if k = 0xFF41 then (givenByte .backing p.initMem 0xFF41 &&& 0xF8) ||| 0x02
    else givenByte .backing p.initMem k.toNat := by
  have h44 : k.toNat = 0xFF44 ↔ k = 0xFF44 := (BitVec.toNat_eq (y := 0xFF44)).symm
  have h41 : k.toNat = 0xFF41 ↔ k = 0xFF41 := (BitVec.toNat_eq (y := 0xFF41)).symm
  refine (initialBacking_get p.initMem k.toNat k.isLt).trans ?_
  simp only [h44, h41]

/-- STAT at a launch: 0b010 below, INIT_MEM above (R43). -/
theorem stat_atLaunch (d : Byte) :
    ((d &&& 0xF8) ||| 0x02) &&& 0x07 = 0x02 ∧ ((d &&& 0xF8) ||| 0x02) &&& 0xF8 = d &&& 0xF8 := by
  revert d
  decide

theorem initialBacking_wf (cells : List Host.Cell) : Memory.wf .backing (initialBacking cells) := by
  have h41 : 0xFF41 < Store.backing.size := by decide
  have h44 : 0xFF44 < Store.backing.size := by decide
  unfold initialBacking
  exact Memory.set_wf _ _ _ _ h44 (Memory.set_wf _ _ _ _ h41 (Memory.ofCells_wf _ _))

theorem LaunchParams.state_inv (p : LaunchParams) (mapper : Mapper) (hlen : romLengthOk p.romBytes = true)
    (hf : p.cpu.f &&& 0x0F = 0) (hm : p.hasMapper mapper) : (p.state mapper).Inv where
  flags := hf
  memory := ⟨initialBacking_wf _, Memory.ofCells_wf _ _, Memory.ofCells_wf _ _⟩
  stat := by
    rw [State.statMirrors, p.state_direct, if_neg (by decide), if_pos rfl, (stat_atLaunch _).1]
    rfl
  line := Nat.zero_le _
  bank := by
    obtain ⟨rfl, -⟩ | ⟨rfl, -⟩ := hm
    · trivial
    · exact (by decide : (1 : BitVec 5) ≠ 0)
  rom := by
    obtain ⟨hwhole, hmin, hmax⟩ := (romLengthOk_iff _).mp hlen
    have hbanks : (p.state mapper).romBanks = p.romBytes / 0x4000 := rfl
    rw [State.romOk, hbanks]
    omega
  halt := fun h => by
    have hh : haltedAtLaunch p.cfg p.cpu = true := h
    rw [haltedAtLaunch, Bool.and_eq_true, decide_eq_true_eq] at hh
    exact hh.2

/-- Settles O24: the outcomes of `launch_cases`, an accepted one byte by byte from the cells given. -/
theorem launch_accepts_or_refuses : Obligations.Launch := by
  unfold Obligations.Launch
  refine ⟨rfl, fun p => ?_⟩
  obtain ⟨hlen, h⟩ | ⟨h0, h1, h⟩ | ⟨hf, h⟩ | ⟨hlen, hf, mapper, h, hm⟩ := launch_cases p
  · rw [h]
    refine ⟨rfl, ?_⟩
    rw [← Bool.not_eq_true, romLengthOk_iff] at hlen
    omega
  · rw [h]
    exact ⟨rfl, h0, h1⟩
  · rw [h]
    exact ⟨rfl, hf⟩
  · obtain ⟨hwhole, hmin, hmax⟩ := (romLengthOk_iff _).mp hlen
    rw [h]
    refine ⟨p.state_inv mapper hlen hf hm, rfl, rfl, rfl, rfl, rfl, rfl, rfl, rfl, rfl, rfl, rfl, rfl, rfl, fun hh => ?halt,
      fun hh => ?fatal, rfl, rfl, ?ly, ?statLow, ?statHigh, fun k h44 h41 => ?bytes, fun k hk => launchRom_get p k hk hmax,
      fun k hk => Memory.get_ofCells .cartRam p.initRam k hk, hm, ?banks, rfl⟩
    case halt => exact (congrArg (p.cpu.halted && ·) (decide_eq_true hh)).trans (Bool.and_true _)
    case fatal => exact (congrArg (p.cpu.halted && ·) (decide_eq_false (by rw [hh]; decide))).trans (Bool.and_false _)
    case ly => rw [p.state_direct, if_pos rfl]
    case statLow => rw [p.state_direct, if_neg (by decide), if_pos rfl, (stat_atLaunch _).1]
    case statHigh => rw [p.state_direct, if_neg (by decide), if_pos rfl, (stat_atLaunch _).2]
    case bytes => rw [p.state_direct, if_neg h44, if_neg h41]
    case banks => exact Nat.div_mul_cancel (Nat.dvd_of_mod_eq_zero hwhole)

end Sys2Proof.Machine
end

section
/-! SUPPORT. The cartridge and plain storage (20_memory.md R62 to R78): what each region reads and writes. -/

namespace Sys2Proof.Machine

/-! ## The MBC1 controls -/

section Controls

variable (m : Mbc1) (a : Word) (v : Byte)

/-- R71. -/
theorem Mbc1.control_ramEn (h : a.toNat ≤ 0x1FFF) : m.control a v = { m with ramEn := decide (v.toNat % 16 = 10) } := by
  have hbits : ∀ v : Byte, (v &&& 0x0F == 0x0A) = decide (v.toNat % 16 = 10) := by decide
  rw [Mbc1.control, if_pos h, hbits]

/-- R72. -/
theorem Mbc1.control_lo (h1 : 0x2000 ≤ a.toNat) (h2 : a.toNat ≤ 0x3FFF) :
    m.control a v = { m with bankLo := BitVec.ofNat 5 (max 1 (v.toNat % 32)) } := by
  have hbits : ∀ v : Byte, (if v.extractLsb' 0 5 = 0 then 1 else v.extractLsb' 0 5) =
      BitVec.ofNat 5 (max 1 (v.toNat % 32)) := by decide
  rw [Mbc1.control, if_neg (by omega), if_pos h2, hbits]

/-- R73. -/
theorem Mbc1.control_hi (h1 : 0x4000 ≤ a.toNat) (h2 : a.toNat ≤ 0x5FFF) :
    m.control a v = { m with bankHi := BitVec.ofNat 2 v.toNat } := by
  have hbits : ∀ v : Byte, v.extractLsb' 0 2 = BitVec.ofNat 2 v.toNat := by decide
  rw [Mbc1.control, if_neg (by omega), if_neg (by omega), if_pos h2, hbits]

/-- R74. -/
theorem Mbc1.control_mode (h : 0x6000 ≤ a.toNat) :
    m.control a v = { m with mode1 := if v.toNat % 2 = 0 then .rom else .ram } := by
  have hbits : ∀ v : Byte, (if v.getLsbD 0 then Mode1.ram else Mode1.rom) =
      if v.toNat % 2 = 0 then .rom else .ram := by decide
  rw [Mbc1.control, if_neg (by omega), if_neg (by omega), if_neg (by omega), hbits]

end Controls

theorem State.write_control {s : State} {m : Mbc1} {a : Word} (v : Byte) (hm : s.mapper = .mbc1 m) (h : a.toNat ≤ 0x7FFF) :
    s.write a v = { s with mapper := .mbc1 (m.control a v) } := by
  rw [s.write_low a v h, State.mapperWrite, hm]

/-- Settles O28: each range writes its own register. -/
theorem mbc1Controls : Obligations.Mbc1Controls := by
  unfold Obligations.Mbc1Controls
  intro s m a v hm ha
  rw [State.write_control v hm ha]
  refine ⟨rfl, rfl, rfl, _, rfl, fun h => ?ramEn, fun h1 h2 => ?lo, fun h1 h2 => ?hi, fun h => ?mode⟩
  case ramEn =>
    rw [m.control_ramEn a v h]
    exact ⟨rfl, rfl, rfl, rfl⟩
  case lo =>
    rw [m.control_lo a v h1 h2]
    refine ⟨?_, rfl, rfl, rfl⟩
    rw [BitVec.toNat_ofNat, Nat.mod_eq_of_lt (by omega)]
  case hi =>
    rw [m.control_hi a v h1 h2]
    exact ⟨BitVec.toNat_ofNat _ _, rfl, rfl, rfl⟩
  case mode =>
    rw [m.control_mode a v h]
    exact ⟨rfl, rfl, rfl, rfl⟩

/-! ## The banks -/

theorem State.read_low {s : State} {a : Word} (h : a.toNat ≤ 0x7FFF) : s.read a = s.mapperRead a := by
  rw [State.read, if_pos h]

theorem State.read_window {s : State} {a : Word} (h1 : 0xA000 ≤ a.toNat) (h2 : a.toNat ≤ 0xBFFF) :
    s.read a = s.cartRamRead a := by
  rw [State.read, if_neg (by omega), if_pos ⟨h1, h2⟩]

theorem State.write_window {s : State} {a : Word} (v : Byte) (h1 : 0xA000 ≤ a.toNat) (h2 : a.toNat ≤ 0xBFFF) :
    s.write a v = s.cartRamWrite a v := by
  rw [State.write, if_neg (by omega), if_pos ⟨h1, h2⟩]

theorem RamBanks.count_eq_zero (n : RamBanks) : n.count = 0 ↔ n = .zero := by cases n <;> decide

/-- Cartridge RAM that is disabled or absent has no byte behind the window (R75). -/
theorem State.cartRamOffset_none {s : State} {m : Mbc1} (a : Word) (h : m.ramEn = false ∨ s.cfg.ramBanks = .zero) :
    s.cartRamOffset m a = none := by
  rw [← RamBanks.count_eq_zero] at h
  rw [State.cartRamOffset, if_pos h]

/-- Otherwise the window shows the selected RAM bank (R75, R76). -/
theorem State.cartRamOffset_some {s : State} {m : Mbc1} (a : Word) (h1 : m.ramEn = true) (h2 : s.cfg.ramBanks ≠ .zero) :
    s.cartRamOffset m a = some ((if m.mode1 = .ram then m.bankHi.toNat else 0) % s.cfg.ramBanks.count * 0x2000 +
      (a.toNat - 0xA000)) := by
  have h : ¬(m.ramEn = false ∨ s.cfg.ramBanks.count = 0) := by
    rw [RamBanks.count_eq_zero, h1]
    simpa using h2
  rw [State.cartRamOffset, if_neg h]
  cases m.mode1 <;> rfl

/-- The ROM bank an MBC1 selects (R70). -/
theorem Mbc1.romBank_eq (m : Mbc1) :
    m.romBank = if m.mode1 = .rom then 32 * m.bankHi.toNat + m.bankLo.toNat else m.bankLo.toNat := by
  rw [Mbc1.romBank]
  cases m.mode1 with
  | rom => rw [if_pos rfl, Nat.mul_comm]
  | ram => rfl

/-- A byte of cartridge RAM reads back (R75). -/
theorem State.read_write_window {s : State} {m : Mbc1} {a : Word} {o : Nat} (v : Byte) (h1 : 0xA000 ≤ a.toNat)
    (h2 : a.toNat ≤ 0xBFFF) (hm : s.mapper = .mbc1 m) (ho : s.cartRamOffset m a = some o) : (s.write a v).read a = v := by
  have hw : s.write a v = { s with cartRam := Memory.set .cartRam s.cartRam o v } := by
    rw [State.write_window v h1 h2, State.cartRamWrite, hm]
    simp only [ho]
  have hm' : (s.write a v).mapper = .mbc1 m := by rw [hw, hm]
  have ho' : (s.write a v).cartRamOffset m a = some o := by rw [hw]; exact ho
  rw [State.read_window h1 h2, State.cartRamRead, hm']
  simp only [ho']
  rw [hw]
  exact Memory.get_set_same _ _ _ _

/-- Settles O29: the regions of the router, then the mapper's kind, then what the window shows. -/
theorem cartridgeBanks : Obligations.CartridgeBanks := by
  unfold Obligations.CartridgeBanks
  refine fun s a v => ⟨fun hm => ⟨fun h => ⟨?romRead, ?romWrite⟩, fun h1 h2 => ⟨?plainRead, ?plainWrite⟩⟩,
    fun m hm => ⟨fun h => ?bank0, fun h1 h2 => ?bank, fun h1 h2 => ⟨fun hno => ⟨?noRead, ?noWrite⟩, fun hen hbanks =>
      ⟨?ramWrite, ?ramRead⟩⟩⟩⟩
  case romRead => rw [State.read_low h, State.mapperRead, State.romOffset, hm]
  case romWrite => rw [s.write_low a v h, State.mapperWrite, hm]
  case plainRead => rw [State.read_window h1 h2, State.cartRamRead, hm]
  case plainWrite =>
    rw [State.write_window v h1 h2, State.read_window h1 h2, State.cartRamWrite, hm, State.cartRamRead,
      State.setDirect_mapper, hm]
    exact s.direct_setDirect_same a v
  case bank0 =>
    rw [State.read_low (by omega), State.mapperRead, State.romOffset, hm]
    simp only [h, if_true]
  case bank =>
    have h' : ¬a.toNat ≤ 0x3FFF := by omega
    rw [State.read_low h2, State.mapperRead, State.romOffset, hm]
    simp only [h', if_false, Mbc1.romBank_eq]
  case noRead =>
    rw [State.read_window h1 h2, State.cartRamRead, hm]
    simp only [State.cartRamOffset_none a hno]
  case noWrite =>
    rw [State.write_window v h1 h2, State.cartRamWrite, hm]
    simp only [State.cartRamOffset_none a hno]
  case ramWrite => exact State.read_write_window v h1 h2 hm (State.cartRamOffset_some a hen hbanks)
  case ramRead =>
    rw [State.read_window h1 h2, State.cartRamRead, hm]
    simp only [State.cartRamOffset_some a hen hbanks]

/-! ## Plain storage -/

theorem plain_iff (a : Word) : plain a = true ↔
    ((0x8000 ≤ a.toNat ∧ a.toNat ≤ 0x9FFF) ∨ (0xC000 ≤ a.toNat ∧ a.toNat ≤ 0xDFFF) ∨
      (0xFE00 ≤ a.toNat ∧ a.toNat ≤ 0xFE9F) ∨ (0xFF00 ≤ a.toNat ∧ a ≠ 0xFF0F ∧ a ≠ 0xFF41)) := by
  simp [plain, or_assoc, and_assoc]

theorem high_of_plain {a : Word} (h : plain a = true) : 0x8000 ≤ a.toNat := by
  rw [plain_iff] at h
  omega

/-- Plain storage stands for itself. -/
theorem canonical_of_plain {a : Word} (h : plain a = true) : canonical a = a := by
  rw [plain_iff] at h
  refine canonical_of_not_echo a ?_
  rw [← Bool.not_eq_true, isEcho_iff]
  omega

/-- A write at a plain address shows nowhere else. -/
theorem State.read_write_plain_other (s : State) {a b : Word} (v : Byte) (h : plain a = true) (hb : canonical b ≠ a) :
    (s.write a v).read b = s.read b :=
  s.read_write_other a b v (high_of_plain h) (by rwa [canonical_of_plain h])

/-- The bytes of a word stored at two plain addresses. -/
theorem State.read_write16_plain (s : State) {a : Word} (w : Word) (h : plain a = true) (h' : plain (a + 1) = true) :
    (s.write16 a w).read a = loByte w ∧ (s.write16 a w).read (a + 1) = hiByte w := by
  have hne : canonical a ≠ a + 1 := by
    rw [canonical_of_plain h]
    bv_omega
  exact ⟨by rw [State.write16, State.read_write_plain_other _ _ h' hne, State.read_write_plain _ _ _ h],
    State.read_write_plain _ _ _ h'⟩

/-- The unusable region reads 0xFF (R66); a store there lands in the backing array. -/
theorem State.read_unusable (s : State) {a : Word} (h1 : 0xFEA0 ≤ a.toNat) (h2 : a.toNat ≤ 0xFEFF) : s.read a = 0xFF := by
  have he : ¬isEcho a = true := by
    rw [isEcho_iff]
    omega
  rw [State.read, if_neg (by omega), if_neg (by omega), if_neg he, if_pos ⟨h1, h2⟩]

theorem State.write_unusable (s : State) {a : Word} (v : Byte) (h1 : 0xFEA0 ≤ a.toNat) (h2 : a.toNat ≤ 0xFEFF) :
    s.write a v = s.setDirect a v := by
  have he : ¬isEcho a = true := by
    rw [isEcho_iff]
    omega
  have hne : a ≠ 0xFF41 := by
    rintro rfl
    simp at h2
  rw [State.write, if_neg (by omega), if_neg (by omega), if_neg he, if_neg hne]

/-- Settles O30: plain storage by the reads after writes above, a word byte by byte, the unusable region by its constant. -/
theorem readAfterWrite : Obligations.ReadAfterWrite := by
  unfold Obligations.ReadAfterWrite
  refine fun s a v w => ⟨fun h => ⟨s.read_write_plain a v h, fun b hb => s.read_write_plain_other v h hb⟩,
    fun h h' => ?word, fun h1 h2 => ⟨s.read_unusable h1 h2, State.read_unusable _ h1 h2, ?stored⟩⟩
  case word =>
    obtain ⟨hlo, hhi⟩ := s.read_write16_plain w h h'
    exact ⟨by rw [State.read16, hlo, hhi, join_hiByte_loByte], by rw [hlo, toNat_loByte]⟩
  case stored => rw [s.write_unusable v h1 h2, State.direct_setDirect_same]

/-! ## The frame of an instruction -/

/-- Settles O60: the memory after an instruction is the memory after its stores, which are at `storedTo`. -/
theorem frameMemory : Obligations.FrameMemory := by
  unfold Obligations.FrameMemory
  intro i s t h
  obtain rfl := exec_inv h
  rw [storedTo_eq]
  obtain ⟨hrom, hbanks⟩ := (shapeOf i).post_rom s
  obtain ⟨-, -, hcfg, -⟩ := (shapeOf i).post_others s
  have hmem := (shapeOf i).post_sameMemory s
  generalize (shapeOf i).stores s = ws at hmem ⊢
  obtain ⟨hwb, hwr, hwc, hwm, hwn⟩ := hmem
  have hread : ∀ a, ((shapeOf i).post s).read a = (s.writes ws).read a :=
    State.read_congr hwb hwr hwn hwc hwm (by rw [hcfg, State.writes_cfg])
  refine ⟨hrom, hbanks, fun hnone => ?none, fun k hk => ?bytes, fun hhigh => ⟨?mapper, fun a ha => ?reads⟩,
    fun hlow => ?low, fun hout => ?window⟩
  case none =>
    obtain rfl : ws = [] := List.map_eq_nil_iff.mp hnone
    exact ⟨⟨hwb, hwr, hwc, hwm, hwn⟩, hread⟩
  case bytes => rw [State.direct_congr hwb, State.writes_direct ws s k hk]
  case mapper => rw [hwm, State.writes_mapper ws s hhigh]
  case reads => rw [hread, State.writes_read ws s a hhigh ha]
  case low =>
    obtain ⟨hb, hc⟩ := State.writes_low ws s hlow
    exact ⟨hwb.trans hb, hwc.trans hc⟩
  case window => rw [hwc, State.writes_outside ws s hout]

end Sys2Proof.Machine
end

section
/-! SUPPORT. The frames of all instructions (10_state.md): each from the frame of the instruction's shape, whose sets are those
of Safety.lean by `shapeOf_frame`. -/

namespace Sys2Proof.Machine

/-- Settles O56. -/
theorem frameRegisters : Obligations.FrameRegisters := by
  unfold Obligations.FrameRegisters
  intro i s t h r hr
  obtain ⟨hdests, -⟩ := shapeOf_frame i
  rw [exec_inv h, Shape.post_reg _ s r (by rwa [hdests])]

/-- Settles O57. -/
theorem frameFlags : Obligations.FrameFlags := by
  unfold Obligations.FrameFlags
  intro i s t hclean h
  obtain ⟨-, hbits, -⟩ := shapeOf_frame i
  rw [exec_inv h, ← hbits, Shape.post_f _ s hclean]

/-- Settles O58. -/
theorem framePointers : Obligations.FramePointers := by
  unfold Obligations.FramePointers
  intro i s t h
  obtain ⟨-, -, hsp, hpc⟩ := shapeOf_frame i
  rw [exec_inv h, ← hsp, ← hpc]
  exact ⟨Shape.post_sp _ s, Shape.post_pc _ s⟩

/-- Settles O59: which shape is DI's, EI's, RETI's or HALT's names the instruction. -/
theorem frameControl : Obligations.FrameControl := by
  unfold Obligations.FrameControl
  intro i s t h
  rw [exec_inv h]
  exact ⟨Shape.post_others _ s, fun hdi hreti => Shape.post_ime _ s (mt shapeOf_eq_di hdi) (mt shapeOf_eq_reti hreti),
    fun hei hreti => Shape.post_eip _ s (mt shapeOf_eq_ei hei) (mt shapeOf_eq_reti hreti),
    fun hhalt => Shape.post_halted _ s (mt shapeOf_eq_halt hhalt), fun hna => Shape.post_fault _ s (shapeOf_not_fatal hna)⟩

end Sys2Proof.Machine
end

section
/-! SUPPORT. Loads through pointers, 16-bit loads and the stack (40_load8.md, 41_load16_stack.md, 43_alu16.md): one rule for each
update the instructions make. -/

namespace Sys2Proof.Machine

/-! ## Rules of the updates -/

/-- A pair written after other changes. -/
theorem changesOnly.setPair {s t : State} {ds : List Reg8} {ws : List (Word × Byte)} (h : changesOnly s t ds ws)
    (p : Pair) (v : Word) : changesOnly s (t.setPair p v) (ds ++ pairRegs p) ws := by
  obtain ⟨hreg, hmem, hcontrol, hothers⟩ := h
  refine ⟨fun r hr => ?_, ?_, by simpa [sameControl] using hcontrol, by simpa [sameOthers] using hothers⟩
  · rw [List.mem_append, not_or] at hr
    rw [State.reg_setPair _ p v r hr.2, hreg r hr.1]
  · simpa [sameMemory] using hmem

/-- A byte stored after other stores. -/
theorem changesOnly.write {s t : State} {ds : List Reg8} {ws : List (Word × Byte)} (h : changesOnly s t ds ws)
    (a : Word) (v : Byte) : changesOnly s (t.write a v) ds (ws ++ [(a, v)]) := by
  obtain ⟨hreg, hmem, hcontrol, hothers⟩ := h
  have hcfg : t.cfg = (s.writes ws).cfg := by rw [hothers.2.2.1, State.writes_cfg]
  refine ⟨fun r hr => by rw [State.reg_write, hreg r hr], ?_, by simpa [sameControl] using hcontrol,
    by simpa [sameOthers] using hothers⟩
  rw [State.writes, List.foldl_append]
  exact State.write_congr hmem hcfg a v

theorem State.setPair_sp_of_ne (s : State) {p : Pair} (v : Word) (h : p ≠ .sp) : (s.setPair p v).sp = s.sp := by
  cases p with
  | sp => exact absurd rfl h
  | _ => rfl

/-- An instruction that only writes a pair. -/
theorem completes_of_setPair {i : Instr} {s : State} {p : Pair} {v : Word} {k : Nat}
    (h : (shapeOf i).post s = (s.setPair p v).count k) :
    completes i s (fun t => t.pair p = v ∧ t.f = s.f ∧ t.pc = s.pc ∧ (p ≠ .sp → t.sp = s.sp) ∧
      changesOnly s t (pairRegs p) []) :=
  ⟨(s.setPair p v).count k, k, by rw [exec_eq_post, h], rfl, by simp, by simp, by simp, s.setPair_sp_of_ne v,
    (changesOnly_setPair s p v).count k⟩

/-- An instruction that writes a pair and the flags. -/
theorem completes_of_setPair_setFlags {i : Instr} {s : State} {p : Pair} {v : Word} {z n h c : Bool} {k : Nat}
    (hpost : (shapeOf i).post s = ((s.setPair p v).setFlags z n h c).count k) :
    completes i s (fun t => t.pair p = v ∧ flagsAre t z n h c ∧ (p ≠ .sp → t.sp = s.sp) ∧ t.pc = s.pc ∧
      changesOnly s t (pairRegs p) []) :=
  ⟨_, k, by rw [exec_eq_post, hpost], rfl, by simp, flagsAre_count k (flagsAre_setFlags _ _ _ _ _),
    s.setPair_sp_of_ne v, by simp, ((changesOnly_setPair s p v).setFlags _ _ _ _).count k⟩

/-- A load or store of A at HL, reaching `u`, that then moves HL. -/
theorem completes_of_hlMoved {i : Instr} {s u : State} {w : Word} {k : Nat} {ds : List Reg8} {ws : List (Word × Byte)}
    (hpost : (shapeOf i).post s = (u.setPair .hl w).count k) (hu : sameFSpPc s u) (hch : changesOnly s u ds ws) :
    completes i s (fun t => t.a = u.a ∧ t.pair .hl = w ∧ sameFSpPc s t ∧ changesOnly s t (ds ++ [.h, .l]) ws) :=
  ⟨_, k, by rw [exec_eq_post, hpost], rfl, by simp, by simp,
    by simpa [sameFSpPc, u.setPair_sp_of_ne w (by decide : Pair.hl ≠ .sp)] using hu, (hch.setPair .hl w).count k⟩

/-! ## A and HL -/

theorem toNat_add_one (w : Word) : (w + 1).toNat = (w.toNat + 1) % 65536 := BitVec.toNat_add w 1

theorem toNat_sub_one (w : Word) : (w - 1).toNat = (w.toNat + 65535) % 65536 := by
  have h1 : (1 : Word).toNat = 1 := rfl
  rw [BitVec.toNat_sub, h1]
  omega

/-- Settles O32: the plain forms by the rules of a load and of a store, the others by that of a moved HL. -/
theorem pointerLoads : Obligations.PointerLoads := by
  unfold Obligations.PointerLoads
  intro s
  have hst : ∀ a, sameFSpPc s (s.write a s.a) := fun a => by simp [sameFSpPc]
  have hld : ∀ v, sameFSpPc s (s.setReg .a v) := fun v => by simp [sameFSpPc]
  have hstHl : (s.write (s.pair .hl) s.a).pair .hl = s.pair .hl := s.pair_write _ _ _
  refine ⟨⟨rfl, rfl⟩, completes_of_setReg (dst := .a) (k := 8) rfl, ⟨rfl, rfl⟩, completes_of_setReg (dst := .a) (k := 8) rfl,
    ⟨rfl, rfl⟩, completes_of_write (k := 8) rfl, ⟨rfl, rfl⟩, completes_of_write (k := 8) rfl, ⟨rfl, rfl⟩, ?stInc,
    ⟨rfl, rfl⟩, ?stDec, ⟨rfl, rfl⟩, ?ldInc, ⟨rfl, rfl⟩, ?ldDec⟩
  case stInc =>
    refine (completes_of_hlMoved (k := 8) rfl (hst _) (changesOnly_write s _ _)).mono fun t ⟨_, hhl, hrest⟩ => ⟨?_, hrest⟩
    rw [hhl, hstHl, toNat_add_one]
  case stDec =>
    refine (completes_of_hlMoved (k := 8) rfl (hst _) (changesOnly_write s _ _)).mono fun t ⟨_, hhl, hrest⟩ => ⟨?_, hrest⟩
    rw [hhl, hstHl, toNat_sub_one]
  case ldInc =>
    refine (completes_of_hlMoved (k := 8) rfl (hld _) (changesOnly_setReg s _ _)).mono fun t ⟨ha, hhl, hrest⟩ =>
      ⟨ha, ?_, hrest⟩
    rw [hhl]
    exact toNat_add_one (s.pair .hl)
  case ldDec =>
    refine (completes_of_hlMoved (k := 8) rfl (hld _) (changesOnly_setReg s _ _)).mono fun t ⟨ha, hhl, hrest⟩ =>
      ⟨ha, ?_, hrest⟩
    rw [hhl]
    exact toNat_sub_one (s.pair .hl)

theorem opWord_eq (op : Byte) (n : Word) : opWord op n = [op, loByte n, hiByte n] := by
  rw [opWord, ← loByte_eq, ← hiByte_eq]

/-- Settles O33: each form by the rule of a load or of a store, at its address. -/
theorem highAndAbsoluteLoads : Obligations.HighAndAbsoluteLoads := by
  unfold Obligations.HighAndAbsoluteLoads
  intro n a s
  rw [← highAddr_eq, ← highAddr_eq, opWord_eq, opWord_eq]
  exact ⟨⟨rfl, rfl⟩, completes_of_write (k := 12) rfl, ⟨rfl, rfl⟩, completes_of_setReg (dst := .a) (k := 12) rfl,
    ⟨rfl, rfl⟩, completes_of_write (k := 8) rfl, ⟨rfl, rfl⟩, completes_of_setReg (dst := .a) (k := 8) rfl,
    ⟨rfl, rfl⟩, completes_of_write (k := 16) rfl, ⟨rfl, rfl⟩, completes_of_setReg (dst := .a) (k := 16) rfl⟩

/-! ## Pairs -/

theorem encode_ldPair (p : Pair) (n : Word) :
    encode (.ldPair p n) = opWord (BitVec.ofNat 8 (16 * pairCode p + 1)) n := by
  rw [opWord_eq]
  cases p <;> rfl

/-- Settles O34: the pairs by the rule of a written pair, LD (a16),SP by its two stores. -/
theorem pairLoads : Obligations.PairLoads := by
  unfold Obligations.PairLoads
  intro p n s
  refine ⟨⟨encode_ldPair p n, cls_ldPair p n⟩, ?pair, ?stSpBytes, ?stSp, ⟨rfl, rfl⟩, ?ldSp⟩
  case pair => exact completes_of_setPair (by rw [shapeOf_ldPair, Shape.post])
  case stSpBytes => exact ⟨by rw [opWord_eq]; rfl, rfl⟩
  case stSp =>
    rw [← loByte_eq, ← hiByte_eq]
    have hexec : exec (.ld_at_a16_sp n) s = .next ((s.write16 n s.sp).count 20) := exec_eq_post _ s
    exact ⟨_, 20, hexec, rfl, by simp [sameFSpPc],
      ((changesOnly_write s n (loByte s.sp)).write (n + 1) (hiByte s.sp)).count 20⟩
  case ldSp =>
    exact (completes_of_setPair (p := .sp) (k := 8) rfl).mono fun t ⟨hsp, hf, hpc, _, hch⟩ => ⟨hsp, hf, hpc, hch⟩

/-- Settles O35: both forms write `SPAdd` to a pair; its result and carries are those of Laws/Flags.lean. -/
theorem spPlusOffset : Obligations.SpPlusOffset := by
  unfold Obligations.SpPlusOffset
  intro n s
  rw [← spAdd_res, ← spAdd_half, ← spAdd_carry]
  refine ⟨⟨rfl, rfl⟩, ?addSp, ⟨rfl, rfl⟩, ?ldHl⟩
  case addSp =>
    exact (completes_of_setPair_setFlags (p := .sp) (k := 16) rfl).mono fun t ⟨hsp, hf, _, hpc, hch⟩ => ⟨hsp, hf, hpc, hch⟩
  case ldHl =>
    exact (completes_of_setPair_setFlags (p := .hl) (k := 12) rfl).mono fun t ⟨hhl, hf, hsp, hrest⟩ =>
      ⟨hhl, hf, hsp (by decide), hrest⟩

/-- Settles O44: by the rule of a written pair. -/
theorem incAndDecPair : Obligations.IncAndDecPair := by
  unfold Obligations.IncAndDecPair
  intro p s
  refine ⟨⟨encode_incPair p, cls_incPair p⟩, ?inc, ⟨encode_decPair p, cls_decPair p⟩, ?dec⟩
  case inc =>
    have hpost : (shapeOf (.incPair p)).post s = (s.setPair p (s.pair p + 1)).count 8 := by rw [shapeOf_incPair, Shape.post]
    refine (completes_of_setPair hpost).mono fun t ⟨hp, hrest⟩ => ⟨?_, hrest⟩
    rw [hp, toNat_add_one]
  case dec =>
    have hpost : (shapeOf (.decPair p)).post s = (s.setPair p (s.pair p - 1)).count 8 := by rw [shapeOf_decPair, Shape.post]
    refine (completes_of_setPair hpost).mono fun t ⟨hp, hrest⟩ => ⟨?_, hrest⟩
    rw [hp, toNat_sub_one]

/-- Settles O45: by the rule of a written pair with flags. -/
theorem addHl_adds : Obligations.AddHl := by
  unfold Obligations.AddHl
  intro p s
  rw [← addHl_half, ← addHl_carry s.cfg]
  refine ⟨⟨encode_addHl p, cls_addHl p⟩, ?_⟩
  have hpost : (shapeOf (.addHl p)).post s = ((s.setPair .hl (addHlOut s.cfg (s.pair .hl) (s.pair p)).res).setFlags s.flagZ false
      (addHlOut s.cfg (s.pair .hl) (s.pair p)).h (addHlOut s.cfg (s.pair .hl) (s.pair p)).c).count 8 := by
    rw [shapeOf_addHl, Shape.post]
  refine (completes_of_setPair_setFlags (p := .hl) hpost).mono fun t ⟨hhl, hf, hsp, hrest⟩ =>
    ⟨?_, hf, hsp (by decide), hrest⟩
  rw [hhl, toNat_addHl]

/-! ## The stack -/

@[simp] theorem State.popValue_count (s : State) (n : Nat) : (s.count n).popValue = s.popValue := rfl

/-- The memory a push leaves reads back as the word pushed, where both bytes are plain. -/
theorem State.popValue_push16 (s : State) (v : Word) (h1 : plain (s.sp - 1) = true) (h2 : plain (s.sp - 2) = true) :
    (s.push16 v).popValue = v := by
  obtain ⟨hb, hr, hc, hm, hn⟩ := s.push16_sameMemory v
  have hread : ∀ a, (s.push16 v).read a = (s.writes (pushStores s v)).read a :=
    State.read_congr hb hr hn hc hm (by simp [State.writes_cfg])
  have hne : canonical (s.sp - 1) ≠ s.sp - 2 := by
    rw [canonical_of_plain h1]
    bv_omega
  have hhi : (s.writes (pushStores s v)).read (s.sp - 1) = hiByte v :=
    (State.read_write_plain_other _ _ h2 hne).trans (s.read_write_plain _ _ h1)
  have hlo : (s.writes (pushStores s v)).read (s.sp - 2) = loByte v := State.read_write_plain _ _ _ h2
  have hsp : s.sp - 2 + 1 = s.sp - 1 := by bv_omega
  rw [State.popValue, hread, hread, State.push16_sp, hsp, hhi, hlo, join_hiByte_loByte]

theorem State.readF_eq {s : State} (h : s.flagsClean) : s.readF = s.f := by
  have hall : ∀ f : Byte, f &&& 0x0F = 0 → f &&& 0xF0 = f := by decide
  exact hall s.f h

/-- A pair written with its own value (R22, R23). -/
theorem State.setStackPair_self {s t : State} (p : StackPair) (hreg : ∀ r, t.reg r = s.reg r) (hf : t.f = s.f)
    (hclean : s.flagsClean) :
    (∀ r, (t.setStackPair p (s.stackPair p)).reg r = s.reg r) ∧ (t.setStackPair p (s.stackPair p)).f = s.f := by
  have hF : s.readF &&& 0xF0 = s.f := (congrArg (· &&& 0xF0) (State.readF_eq hclean)).trans (State.readF_eq hclean)
  refine ⟨fun r => ?_, ?_⟩
  · by_cases hr : r ∈ stackPairRegs p
    · cases p <;> simp only [stackPairRegs, List.mem_cons, List.not_mem_nil, or_false] at hr
      · obtain rfl | rfl := hr
        · exact hiByte_join s.b s.c
        · exact loByte_join s.b s.c
      · obtain rfl | rfl := hr
        · exact hiByte_join s.d s.e
        · exact loByte_join s.d s.e
      · obtain rfl | rfl := hr
        · exact hiByte_join s.h s.l
        · exact loByte_join s.h s.l
      · subst hr
        exact hiByte_join s.a s.readF
    · rw [State.reg_setStackPair _ _ _ _ hr, hreg]
  · by_cases hp : p = .af
    · subst hp
      rw [State.setStackPair, State.writeF_f, State.stackPair, loByte_join, hF]
    · rw [State.setStackPair_f _ _ _ hp, hf]

/-- Settles O37: what is popped is what was pushed, and the pair takes its own value back. -/
theorem pushThenPop : Obligations.PushThenPop := by
  unfold Obligations.PushThenPop
  intro p s h1 h2 hclean
  have hpush : exec (.push p) s = .next ((s.push16 (s.stackPair p)).count 16) := by
    rw [exec_eq_post, shapeOf_push, Shape.post]
  have hpop := exec_pop_eq p ((s.push16 (s.stackPair p)).count 16)
  have hvalue : ((s.push16 (s.stackPair p)).count 16).popValue = s.stackPair p := by
    rw [State.popValue_count, State.popValue_push16 _ _ h1 h2]
  obtain ⟨hreg, hf⟩ := State.setStackPair_self (t := ((s.push16 (s.stackPair p)).count 16).popSp) p
    (fun r => by simp) (by simp) hclean
  rw [hvalue] at hpop
  refine ⟨_, _, hpush, hpop, ?_⟩
  exact ⟨fun r => by rw [State.reg_count, hreg], hf, by simp, by simp⟩

end Sys2Proof.Machine
end

section
/-! SUPPORT. 8-bit arithmetic on an operand, the accumulator and the flags, and the CB rows (42_alu8.md, 44_rotate_shift.md,
45_bit.md): one rule for each update, and the outputs in arithmetic. -/

namespace Sys2Proof.Machine

/-! ## Rules of the updates -/

/-- An instruction that leaves an output in an operand and the flags. -/
theorem completes_of_writeOut {i : Instr} {s : State} {o : Operand8} {res : Byte} {z n h c : Bool} {k : Nat}
    (hpost : (shapeOf i).post s = (s.writeOut o ⟨res, z, n, h, c⟩).count k) :
    completes i s (fun t => leaves s t o res ∧ flagsAre t z n h c ∧ t.sp = s.sp ∧ t.pc = s.pc) :=
  ⟨_, k, by rw [exec_eq_post, hpost], rfl, (leaves_writeOut s o _).count k, flagsAre_count k (flagsAre_writeOut s o _),
    by simp, by simp⟩

/-- An instruction that leaves a value in an operand and writes no flag. -/
theorem completes_of_writeR {i : Instr} {s : State} {o : Operand8} {v : Byte} {k : Nat}
    (hpost : (shapeOf i).post s = (s.writeR o v).count k) : completes i s (fun t => leaves s t o v ∧ sameFSpPc s t) :=
  ⟨_, k, by rw [exec_eq_post, hpost], rfl, (leaves_writeR s o v).count k, by simp [sameFSpPc]⟩

/-- An instruction that only writes the flags. -/
theorem completes_of_setFlags {i : Instr} {s : State} {z n h c : Bool} {k : Nat}
    (hpost : (shapeOf i).post s = (s.setFlags z n h c).count k) :
    completes i s (fun t => flagsAre t z n h c ∧ t.sp = s.sp ∧ t.pc = s.pc ∧ changesOnly s t [] []) :=
  ⟨(s.setFlags z n h c).count k, k, by rw [exec_eq_post, hpost], rfl, flagsAre_count k (flagsAre_setFlags s z n h c), rfl, rfl,
    ((changesOnly_refl s).setFlags _ _ _ _).count k⟩

/-- What an operand A holds. -/
theorem leaves.of_a {s t : State} {v : Byte} (h : leaves s t (.reg .a) v) : t.a = v ∧ changesOnly s t [.a] [] :=
  ⟨h.1 .a rfl, h.2⟩

/-! ## INC and DEC -/

theorem incOut_eq (v : Byte) (c : Bool) : incOut v c = ⟨BitVec.ofNat 8 (v.toNat + 1), decide (v.toNat = 255), false,
    decide (v.toNat % 16 = 15), c⟩ := by
  rw [← incOut_res v c, ← incOut_z v c, ← incOut_h v c]
  rfl

theorem decOut_eq (v : Byte) (c : Bool) : decOut v c = ⟨BitVec.ofNat 8 (v.toNat + 255), decide (v.toNat = 1), true,
    decide (v.toNat % 16 = 0), c⟩ := by
  rw [← decOut_res v c, ← decOut_z v c, ← decOut_h v c]
  rfl

/-- Settles O41: by the rule of an output in an operand. -/
theorem incAndDec : Obligations.IncAndDec := by
  unfold Obligations.IncAndDec
  intro o s
  exact ⟨⟨encode_inc o, cls_inc o⟩, completes_of_writeOut (by rw [shapeOf_inc, Shape.post, incOut_eq]),
    ⟨encode_dec o, cls_dec o⟩, completes_of_writeOut (by rw [shapeOf_dec, Shape.post, decOut_eq])⟩

/-! ## DAA, CPL, SCF, CCF -/

/-- After an addition DAA adds its adjustment (R276). -/
theorem daaOut_add (a : Byte) (h c : Bool) : (daaOut a false h c).res.toNat =
    (a.toNat + (if c ∨ 0x99 < a.toNat then 0x60 else 0) + (if h ∨ 9 < a.toNat % 16 then 6 else 0)) % 256 := by
  cases h <;> cases c <;> revert a <;> decide

/-- After a subtraction DAA subtracts it. -/
theorem daaOut_sub (a : Byte) (h c : Bool) : (daaOut a true h c).res.toNat =
    (a.toNat + 256 - (if c then 0x60 else 0) - (if h then 6 else 0)) % 256 := by
  cases h <;> cases c <;> revert a <;> decide

theorem daaOut_eq (a : Byte) (n h c : Bool) : daaOut a n h c = ⟨(daaOut a n h c).res, decide ((daaOut a n h c).res = 0), n,
    false, c || !n && decide (0x99 < a.toNat)⟩ := by
  rw [← beq_zero_eq]
  cases n <;> simp [daaOut]

/-- DAA (R276): the adjusted A and its flags, after an addition and after a subtraction. -/
theorem completes_daa (s : State) : completes .daa s (fun t =>
    (s.flagN = false → t.a.toNat = (s.a.toNat + (if s.flagC ∨ 0x99 < s.a.toNat then 0x60 else 0) +
      (if s.flagH ∨ 9 < s.a.toNat % 16 then 6 else 0)) % 256) ∧
    (s.flagN = true → t.a.toNat = (s.a.toNat + 256 - (if s.flagC then 0x60 else 0) - (if s.flagH then 6 else 0)) % 256) ∧
    flagsAre t (decide (t.a = 0)) s.flagN false (s.flagC || !s.flagN && decide (0x99 < s.a.toNat)) ∧
    t.sp = s.sp ∧ t.pc = s.pc ∧ changesOnly s t [.a] []) := by
  have hpost : (shapeOf .daa).post s = (s.writeOut (.reg .a) (daaOut s.a s.flagN s.flagH s.flagC)).count 4 := rfl
  rw [daaOut_eq] at hpost
  refine (completes_of_writeOut hpost).mono fun t ⟨hl, hf, hsp, hpc⟩ => ?_
  obtain ⟨ha, hch⟩ := hl.of_a
  rw [ha]
  exact ⟨fun hn => by rw [hn, daaOut_add], fun hn => by rw [hn, daaOut_sub], hf, hsp, hpc, hch⟩

/-- Settles O42: DAA by `completes_daa`, CPL by the rule of an output in A, SCF and CCF by that of the flags. -/
theorem daaCplScfCcf : Obligations.DaaCplScfCcf := by
  unfold Obligations.DaaCplScfCcf
  intro s
  refine ⟨⟨rfl, rfl⟩, completes_daa s, ⟨rfl, rfl⟩, ?cpl, ⟨rfl, rfl⟩, completes_of_setFlags (k := 4) rfl, ⟨rfl, rfl⟩,
    completes_of_setFlags (k := 4) rfl⟩
  case cpl =>
    refine (completes_of_writeOut (o := .reg .a) (k := 4) rfl).mono fun t ⟨hl, hf, hsp, hpc⟩ => ?_
    obtain ⟨ha, hch⟩ := hl.of_a
    exact ⟨by rw [ha, BitVec.toNat_not], hf, hsp, hpc, hch⟩

/-! ## DAA after BCD arithmetic -/

theorem isBcd_iff (v : Byte) : isBcd v = true ↔ v.toNat / 16 ≤ 9 ∧ v.toNat % 16 ≤ 9 := by
  simp [isBcd]

/-- The numbers of a BCD addition and its DAA: `x` and `y` the operands, `k` the carry in, `r` the sum, `u` adjusted. `c` is the
carry between the digits. -/
theorem bcd_add_adjust (x y k r u : Nat) (hx : x / 16 ≤ 9 ∧ x % 16 ≤ 9) (hy : y / 16 ≤ 9 ∧ y % 16 ≤ 9) (hk : k ≤ 1)
    (hr : r = (x + y + k) % 256)
    (hu : u = (r + (if 255 < x + y + k ∨ 0x99 < r then 0x60 else 0) +
      (if 15 < x % 16 + y % 16 + k ∨ 9 < r % 16 then 6 else 0)) % 256) :
    (u / 16 ≤ 9 ∧ u % 16 ≤ 9) ∧
    u / 16 * 10 + u % 16 = (x / 16 * 10 + x % 16 + (y / 16 * 10 + y % 16) + k) % 100 ∧
    (255 < x + y + k ∨ 0x99 < r ↔ 100 ≤ x / 16 * 10 + x % 16 + (y / 16 * 10 + y % 16) + k) := by
  obtain ⟨hxh, hxl⟩ := hx
  obtain ⟨hyh, hyl⟩ := hy
  have hxd := Nat.div_add_mod x 16
  have hyd := Nat.div_add_mod y 16
  generalize x / 16 = xh at *
  generalize x % 16 = xl at *
  generalize y / 16 = yh at *
  generalize y % 16 = yl at *
  subst hxd hyd
  obtain ⟨c, hc⟩ : ∃ c, xl + yl + k = 10 * c + (xl + yl + k) % 10 ∧ c ≤ 1 := ⟨(xl + yl + k) / 10, by omega⟩
  have hu' : u = 16 * ((xh + yh + c) % 10) + (xl + yl + k) % 10 := by
    split_ifs at hu <;> omega
  clear hu
  refine ⟨by omega, by omega, ?_⟩
  have hcarry : 255 < 16 * xh + xl + (16 * yh + yl) + k ∨ 0x99 < r ↔ 10 ≤ xh + yh + c := by
    rcases Nat.lt_or_ge (xl + yl + k) 10 with h | h <;> omega
  rw [hcarry]
  omega

/-- The same for a subtraction, `k` the borrow in and `b` the borrow between the digits. -/
theorem bcd_sub_adjust (x y k r u : Nat) (hx : x / 16 ≤ 9 ∧ x % 16 ≤ 9) (hy : y / 16 ≤ 9 ∧ y % 16 ≤ 9) (hk : k ≤ 1)
    (hr : r = (x + 512 - y - k) % 256)
    (hu : u = (r + 256 - (if x < y + k then 0x60 else 0) - (if x % 16 < y % 16 + k then 6 else 0)) % 256) :
    (u / 16 ≤ 9 ∧ u % 16 ≤ 9) ∧
    u / 16 * 10 + u % 16 = (x / 16 * 10 + x % 16 + 100 - (y / 16 * 10 + y % 16) - k) % 100 ∧
    (x < y + k ↔ x / 16 * 10 + x % 16 < y / 16 * 10 + y % 16 + k) := by
  obtain ⟨hxh, hxl⟩ := hx
  obtain ⟨hyh, hyl⟩ := hy
  have hxd := Nat.div_add_mod x 16
  have hyd := Nat.div_add_mod y 16
  generalize x / 16 = xh at *
  generalize x % 16 = xl at *
  generalize y / 16 = yh at *
  generalize y % 16 = yl at *
  subst hxd hyd
  obtain ⟨b, hb⟩ : ∃ b, xl + 10 * b = yl + k + (xl + 10 - yl - k) % 10 ∧ b ≤ 1 := by
    rcases Nat.lt_or_ge xl (yl + k) with h | h
    · exact ⟨1, by omega⟩
    · exact ⟨0, by omega⟩
  have hu' : u = 16 * ((xh + 10 - yh - b) % 10) + (xl + 10 - yl - k) % 10 := by
    split_ifs at hu <;> omega
  clear hu
  refine ⟨by omega, by omega, by omega⟩

/-- DAA in a state that an addition of BCD bytes left. -/
theorem daa_after_add {t : State} {x y : Byte} {k : Bool} (hx : isBcd x = true) (hy : isBcd y = true)
    (ha : t.a.toNat = (x.toNat + y.toNat + k.toNat) % 256) (hn : t.flagN = false)
    (hh : t.flagH = decide (15 < x.toNat % 16 + y.toNat % 16 + k.toNat))
    (hc : t.flagC = decide (255 < x.toNat + y.toNat + k.toNat)) :
    ∃ u, exec .daa t = .next u ∧ isBcd u.a = true ∧ bcd u.a = (bcd x + bcd y + k.toNat) % 100 ∧
      u.flagC = decide (100 ≤ bcd x + bcd y + k.toNat) := by
  obtain ⟨u, -, hexec, -, hadd, -, ⟨-, -, -, hcu, -⟩, -⟩ := completes_daa t
  have hu := hadd hn
  simp only [hh, hc, decide_eq_true_eq] at hu
  obtain ⟨hbcd, hval, hcarry⟩ := bcd_add_adjust _ _ _ _ _ ((isBcd_iff x).mp hx) ((isBcd_iff y).mp hy) k.toNat_le ha hu
  refine ⟨u, hexec, (isBcd_iff _).mpr hbcd, hval, ?_⟩
  rw [hcu, hn, hc, Bool.not_false, Bool.true_and, ← Bool.decide_or]
  exact decide_eq_decide.mpr hcarry

/-- DAA in a state that a subtraction of BCD bytes left, H being the borrow. -/
theorem daa_after_sub {t : State} {x y : Byte} {k : Bool} (hx : isBcd x = true) (hy : isBcd y = true)
    (ha : t.a.toNat = (x.toNat + 512 - y.toNat - k.toNat) % 256) (hn : t.flagN = true)
    (hh : t.flagH = decide (x.toNat % 16 < y.toNat % 16 + k.toNat)) (hc : t.flagC = decide (x.toNat < y.toNat + k.toNat)) :
    ∃ u, exec .daa t = .next u ∧ isBcd u.a = true ∧ bcd u.a = (bcd x + 100 - bcd y - k.toNat) % 100 ∧
      u.flagC = decide (bcd x < bcd y + k.toNat) := by
  obtain ⟨u, -, hexec, -, -, hsub, ⟨-, -, -, hcu, -⟩, -⟩ := completes_daa t
  have hu := hsub hn
  simp only [hh, hc, decide_eq_true_eq] at hu
  obtain ⟨hbcd, hval, hcarry⟩ := bcd_sub_adjust _ _ _ _ _ ((isBcd_iff x).mp hx) ((isBcd_iff y).mp hy) k.toNat_le ha hu
  refine ⟨u, hexec, (isBcd_iff _).mpr hbcd, hval, ?_⟩
  rw [hcu, hn, hc, Bool.not_true, Bool.false_and, Bool.or_false]
  exact decide_eq_decide.mpr hcarry

/-- Settles O43: the flags an addition or subtraction leaves (O38, O39) are what DAA adjusts by. -/
theorem daaCorrectsBcd : Obligations.DaaCorrectsBcd := by
  unfold Obligations.DaaCorrectsBcd
  intro src s hx hy
  obtain ⟨-, hadd, -, hadc⟩ := addAndAdc src s
  obtain ⟨-, hsub, -, hsbc, -⟩ := subSbcCp src s
  refine ⟨?add, ?adc, fun hm => ?sub, fun hm => ?sbc⟩
  case add =>
    obtain ⟨t, -, hexec, -, ha, ⟨-, hn, hh, hc, -⟩, -⟩ := hadd
    obtain ⟨u, hu⟩ := daa_after_add (k := false) hx hy ha hn hh hc
    exact ⟨t, u, hexec, hu⟩
  case adc =>
    obtain ⟨t, -, hexec, -, ha, ⟨-, hn, hh, hc, -⟩, -⟩ := hadc
    obtain ⟨u, hu⟩ := daa_after_add hx hy ha hn hh hc
    exact ⟨t, u, hexec, hu⟩
  case sub =>
    obtain ⟨t, -, hexec, -, ha, ⟨-, hn, hh, hc, -⟩, -⟩ := hsub
    rw [hm, decide_eq_true rfl, beq_true] at hh
    have ha' : t.a.toNat = (s.a.toNat + 512 - (s.aluSrc src).toNat - 0) % 256 := by omega
    obtain ⟨u, hu⟩ := daa_after_sub (k := false) hx hy ha' hn hh hc
    exact ⟨t, u, hexec, hu⟩
  case sbc =>
    obtain ⟨t, -, hexec, -, ha, ⟨-, hn, hh, hc, -⟩, -⟩ := hsbc
    rw [hm, decide_eq_true rfl, beq_true] at hh
    obtain ⟨u, hu⟩ := daa_after_sub hx hy ha hn hh hc
    exact ⟨t, u, hexec, hu⟩

/-! ## The CB rows -/

/-- Z of a CB rotate or shift (R324). -/
theorem zcb_eq (cfg : Config) (w : Byte) (op : RotOp) (hop : op ≠ .swap) :
    zcb cfg w = (decide (w = 0) && decide (op = .swap ∨ cfg.cbShiftZ = .result)) := by
  rw [zcb, ← beq_zero_eq]
  cases cfg.cbShiftZ <;> simp [hop]

/-- A CB rotate or shift, by the byte and the bit it leaves. -/
theorem completes_rot {op : RotOp} {o : Operand8} {s : State} {r : Byte × Bool} {v : Nat} {c : Bool} (hop : op ≠ .swap)
    (hout : rotOut s.cfg op (s.readR o) s.flagC = cbShiftOut s.cfg r) (hres : r.1.toNat = v) (hc : r.2 = c) :
    completes (.rot op o) s (fun t => ∃ w : Byte, leaves s t o w ∧ w.toNat = v ∧
      flagsAre t (decide (w = 0) && decide (op = .swap ∨ s.cfg.cbShiftZ = .result)) false false c ∧
      t.sp = s.sp ∧ t.pc = s.pc) := by
  subst hres hc
  rw [cbShiftOut, zcb_eq _ _ op hop] at hout
  have hpost := congrArg (fun out => (s.writeOut o out).count (operandCycles o 8 16)) hout
  exact (completes_of_writeOut ((congrArg (Shape.post s) (shapeOf_rot op o)).trans hpost)).mono
    fun t ⟨hl, hf, hsp, hpc⟩ => ⟨_, hl, rfl, hf, hsp, hpc⟩

/-- Settles O47: the rotates and shifts by `completes_rot`, with the values and bits of Laws/Flags.lean; SWAP has its own
Z. -/
theorem cbRotates : Obligations.CbRotates := by
  unfold Obligations.CbRotates
  refine fun op o s => ⟨encode_rot op o, ?_⟩
  have h7 := getLsbD_7 (s.readR o)
  have h0 := getLsbD_0 (s.readR o)
  cases op with
  | rlc => exact completes_rot (by decide) rfl (rotLc_res _) h7
  | rrc => exact completes_rot (by decide) rfl (rotRc_res _) h0
  | rl => exact completes_rot (by decide) rfl (rotL_res _ _) h7
  | rr => exact completes_rot (by decide) rfl (rotR_res _ _) h0
  | sla => exact completes_rot (by decide) rfl (shiftLa_res _) h7
  | sra => exact completes_rot (by decide) rfl (shiftRa_res _) h0
  | srl => exact completes_rot (by decide) rfl (shiftRl_res _) h0
  | swap =>
    have hout : rotOut s.cfg .swap (s.readR o) s.flagC = ⟨swapNibbles (s.readR o),
        decide (swapNibbles (s.readR o) = 0), false, false, false⟩ := by rw [← beq_zero_eq]; rfl
    have hpost := congrArg (fun out => (s.writeOut o out).count (operandCycles o 8 16)) hout
    exact (completes_of_writeOut ((congrArg (Shape.post s) (shapeOf_rot .swap o)).trans hpost)).mono
      fun t ⟨hl, hf, hsp, hpc⟩ => ⟨_, hl, swapNibbles_res _, by simpa using hf, hsp, hpc⟩

theorem cls_bit (b : Fin 8) (o : Operand8) : (Instr.bit b o).opcode.cls = if o = .atHl then .extra else .named := by
  fin_cases b <;> rcases o with r | _ <;> first | rfl | (cases r <;> rfl)

/-- Settles O48: by the rule of the flags. -/
theorem bitTest_flags : Obligations.BitTest := by
  unfold Obligations.BitTest
  intro b o s
  exact ⟨⟨encode_bit b o, cls_bit b o⟩, completes_of_setFlags (by rw [shapeOf_bit, Shape.post])⟩

/-- Settles O49: by the rule of a value in an operand, read bit by bit. -/
theorem resetAndSetBit : Obligations.ResetAndSetBit := by
  unfold Obligations.ResetAndSetBit
  intro b o s
  refine ⟨encode_res b o, ?res, encode_set b o, ?set⟩
  case res =>
    exact (completes_of_writeR (by rw [shapeOf_res, Shape.post])).mono fun t ⟨hl, hsame⟩ =>
      ⟨_, hl, hsame, getLsbD_clearBit b _⟩
  case set =>
    exact (completes_of_writeR (by rw [shapeOf_set, Shape.post])).mono fun t ⟨hl, hsame⟩ =>
      ⟨_, hl, hsame, getLsbD_setBit b _⟩

end Sys2Proof.Machine
end

section
/-! SUPPORT. Control and system instructions (46_control.md, 47_system.md): one rule for each update of PC, the stack and the
control state. -/

namespace Sys2Proof.Machine

/-! ## Jumps -/

theorem State.relTarget_eq (s : State) (e : Byte) : s.relTarget e = BitVec.ofInt 16 ((s.pc.toNat : Int) + e.toInt) :=
  spAdd_res s.pc e

/-- An instruction that only writes PC. -/
theorem completes_of_pc {i : Instr} {s : State} {a : Word} {k : Nat}
    (hpost : (shapeOf i).post s = { s with pc := a }.count k) :
    completes i s (fun t => t.pc = a ∧ t.f = s.f ∧ t.sp = s.sp ∧ changesOnly s t [] []) :=
  ⟨{ s with pc := a }.count k, k, by rw [exec_eq_post, hpost], rfl, rfl, rfl, rfl, ((changesOnly_refl s).pc a).count k⟩

/-- A conditional jump: not taken, it leaves PC past the instruction. -/
theorem completes_of_jumpIf {i : Instr} {s : State} {cc : Cond} {f : TargetForm} {k k' : Nat}
    (hshape : shapeOf i = .jumpIf cc f k k') :
    completes i s (fun t => t.pc = (if s.cond cc then f.target s else s.pc) ∧ t.f = s.f ∧ t.sp = s.sp ∧
      changesOnly s t [] []) := by
  cases hc : s.cond cc with
  | true => exact completes_of_pc (k := k) (by rw [hshape, Shape.post, if_pos hc, if_pos rfl])
  | false =>
    rw [if_neg (by decide)]
    exact completes_of_pc (k := k') (by rw [hshape, Shape.post, hc]; rfl)

theorem encode_jpCc (cc : Cond) (n : Word) : encode (.jpCc cc n) = opWord (BitVec.ofNat 8 (0xC2 + 8 * condCode cc)) n := by
  rw [opWord_eq]
  cases cc <;> rfl

/-- Settles O51: each form by the rule of a written PC. -/
theorem jumps : Obligations.Jumps := by
  unfold Obligations.Jumps
  intro cc n e s
  rw [← State.relTarget_eq]
  exact ⟨⟨by rw [opWord_eq]; rfl, rfl⟩, completes_of_pc (k := 16) rfl, ⟨encode_jpCc cc n, cls_jpCc cc n⟩,
    completes_of_jumpIf (shapeOf_jpCc cc n), ⟨rfl, rfl⟩, completes_of_pc (k := 4) rfl, ⟨rfl, rfl⟩,
    completes_of_pc (k := 12) rfl, ⟨encode_jrCc cc e, cls_jrCc cc e⟩, completes_of_jumpIf (shapeOf_jrCc cc e)⟩

/-! ## Calls and returns -/

theorem State.called_sp (s : State) (a : Word) : (s.called a).sp = s.sp - 2 := s.push16_sp s.pc

theorem State.called_f (s : State) (a : Word) : (s.called a).f = s.f := s.push16_f s.pc

theorem changesOnly_called (s : State) (a : Word) : changesOnly s (s.called a) [] (pushes s s.pc) :=
  (changesOnly_push16 s s.pc).pc a

/-- CALL and RST: PC is pushed, then written. -/
theorem completes_of_call {i : Instr} {s : State} {a : Word} {k : Nat}
    (hpost : (shapeOf i).post s = (s.called a).count k) :
    completes i s (fun t => t.pc = a ∧ t.sp = s.sp - 2 ∧ t.f = s.f ∧ changesOnly s t [] (pushes s s.pc)) :=
  ⟨(s.called a).count k, k, by rw [exec_eq_post, hpost], rfl, rfl, s.called_sp a, s.called_f a,
    (changesOnly_called s a).count k⟩

/-- RET: PC is popped. -/
theorem completes_of_ret {i : Instr} {s : State} {k : Nat} (hpost : (shapeOf i).post s = s.popPc.count k) :
    completes i s (fun t => t.pc = poppedWord s ∧ t.sp = s.sp + 2 ∧ t.f = s.f ∧ changesOnly s t [] []) :=
  ⟨s.popPc.count k, k, by rw [exec_eq_post, hpost], rfl, (poppedWord_eq s).symm, rfl, rfl, (changesOnly_popPc s).count k⟩

/-- An instruction that only returns its count: NOP, and a conditional form not taken. -/
theorem completes_of_count {i : Instr} {s : State} {k : Nat} (hpost : (shapeOf i).post s = s.count k) :
    completes i s (fun t => sameFSpPc s t ∧ changesOnly s t [] []) :=
  ⟨s.count k, k, by rw [exec_eq_post, hpost], rfl, ⟨rfl, rfl, rfl⟩, (changesOnly_refl s).count k⟩

theorem encode_callCc (cc : Cond) (n : Word) :
    encode (.callCc cc n) = opWord (BitVec.ofNat 8 (0xC4 + 8 * condCode cc)) n := by
  rw [opWord_eq]
  cases cc <;> rfl

theorem rstTarget_eq (y : Fin 8) : rstTarget y = BitVec.ofNat 16 (8 * y.val) := by rw [rstTarget, Nat.mul_comm]

/-- Settles O52: each form by its rule; the conditional ones by whether they are taken. -/
theorem callsAndReturns : Obligations.CallsAndReturns := by
  unfold Obligations.CallsAndReturns
  intro cc n y s
  refine ⟨⟨by rw [opWord_eq]; rfl, rfl⟩, completes_of_call (k := 24) rfl, ⟨encode_callCc cc n, cls_callCc cc n⟩, ?callCc,
    ⟨encode_rst y, cls_rst y⟩, ?rst, ⟨rfl, rfl⟩, completes_of_ret (k := 16) rfl, ⟨encode_retCc cc, cls_retCc cc⟩, ?retCc⟩
  case callCc =>
    cases hc : s.cond cc with
    | true =>
      have hpost : (shapeOf (.callCc cc n)).post s = (s.called n).count 24 := by rw [shapeOf_callCc, Shape.post, if_pos hc]
      exact (completes_of_call hpost).mono fun t ⟨hpc, hsp, hf, hch⟩ => ⟨hf, fun _ => ⟨hpc, hsp, hch⟩, Bool.noConfusion⟩
    | false =>
      have hpost : (shapeOf (.callCc cc n)).post s = s.count 12 := by rw [shapeOf_callCc, Shape.post, hc]; rfl
      exact (completes_of_count hpost).mono fun t ⟨⟨hf, hsp, hpc⟩, hch⟩ =>
        ⟨hf, Bool.noConfusion, fun _ => ⟨hpc, hsp, hch⟩⟩
  case rst =>
    rw [← rstTarget_eq]
    exact completes_of_call (by rw [shapeOf_rst, Shape.post])
  case retCc =>
    cases hc : s.cond cc with
    | true =>
      have hpost : (shapeOf (.retCc cc)).post s = s.popPc.count 20 := by rw [shapeOf_retCc, Shape.post, if_pos hc]
      exact (completes_of_ret hpost).mono fun t ⟨hpc, hsp, hf, hch⟩ => ⟨hf, hch, fun _ => ⟨hpc, hsp⟩, Bool.noConfusion⟩
    | false =>
      have hpost : (shapeOf (.retCc cc)).post s = s.count 8 := by rw [shapeOf_retCc, Shape.post, hc]; rfl
      exact (completes_of_count hpost).mono fun t ⟨⟨hf, hsp, hpc⟩, hch⟩ =>
        ⟨hf, hch, Bool.noConfusion, fun _ => ⟨hpc, hsp⟩⟩

/-! ## The control state -/

theorem State.returnFromInterrupt_immediate {s : State} (h : s.cfg.retiMode = .immediate) :
    s.returnFromInterrupt = { s.popPc with ime := true } := by
  simp only [State.returnFromInterrupt, State.popSp_cfg, h]
  rfl

theorem State.returnFromInterrupt_delayed {s : State} (h : s.cfg.retiMode = .delayed) :
    s.returnFromInterrupt = { s.popPc with eip := true } := by
  simp only [State.returnFromInterrupt, State.popSp_cfg, h]
  rfl

/-- Settles O53: RETI by its shape, under each `RETI_MODE`. -/
theorem returnFromInterrupt_mode : Obligations.ReturnFromInterrupt := by
  unfold Obligations.ReturnFromInterrupt
  refine fun s => ⟨⟨rfl, rfl⟩, s.returnFromInterrupt.count 16, 16, exec_eq_post .reti s, rfl, ?_⟩
  rw [poppedWord_eq]
  cases hm : s.cfg.retiMode with
  | immediate =>
    rw [State.returnFromInterrupt_immediate hm]
    exact ⟨rfl, rfl, rfl, fun r => by cases r <;> rfl, fun _ => ⟨rfl, rfl⟩, RetiMode.noConfusion,
      ⟨rfl, rfl, rfl, rfl, rfl⟩, rfl, rfl, ⟨rfl, rfl, rfl, rfl, rfl⟩⟩
  | delayed =>
    rw [State.returnFromInterrupt_delayed hm]
    exact ⟨rfl, rfl, rfl, fun r => by cases r <;> rfl, RetiMode.noConfusion, fun _ => ⟨rfl, rfl⟩,
      ⟨rfl, rfl, rfl, rfl, rfl⟩, rfl, rfl, ⟨rfl, rfl, rfl, rfl, rfl⟩⟩

/-- Settles O54: the two shapes write IME and EIP alone. -/
theorem diAndEi : Obligations.DiAndEi := by
  unfold Obligations.DiAndEi
  refine fun s => ⟨⟨rfl, rfl⟩, ⟨{ s with ime := false }.count 4, 4, exec_eq_post .di s, rfl, ?di⟩, ⟨rfl, rfl⟩,
    ⟨{ s with eip := true }.count 4, 4, exec_eq_post .ei s, rfl, ?ei⟩⟩
  case di =>
    exact ⟨rfl, rfl, ⟨rfl, rfl, rfl⟩, fun r => by cases r <;> rfl, ⟨rfl, rfl, rfl, rfl, rfl⟩, rfl, rfl,
      ⟨rfl, rfl, rfl, rfl, rfl⟩⟩
  case ei =>
    exact ⟨rfl, rfl, ⟨rfl, rfl, rfl⟩, fun r => by cases r <;> rfl, ⟨rfl, rfl, rfl, rfl, rfl⟩, rfl, rfl,
      ⟨rfl, rfl, rfl, rfl, rfl⟩⟩

/-- Settles O55: NOP only returns its count; HALT writes HALTED alone. -/
theorem nopAndHalt : Obligations.NopAndHalt := by
  unfold Obligations.NopAndHalt
  refine fun s => ⟨⟨rfl, rfl⟩, completes_of_count (k := 4) rfl, ⟨rfl, rfl⟩,
    ⟨{ s with halted := true }.count 4, 4, exec_eq_post .halt s, rfl, ?halt⟩⟩
  case halt =>
    exact ⟨rfl, rfl, rfl, rfl, ⟨rfl, rfl, rfl⟩, fun r => by cases r <;> rfl, ⟨rfl, rfl, rfl, rfl, rfl⟩,
      ⟨rfl, rfl, rfl, rfl, rfl⟩⟩

end Sys2Proof.Machine
end
